-- ==== Sys2Proof/Word.lean ====
section
/-! DEFINITION. The word types of the TinyVM core (spec/00_scope.md R9, R13): a word is 16 bits, a byte of the
byte view is 8 bits, a register field is 4 bits, a count of instructions is 64 bits. -/

namespace Sys2Proof

/-- A 16-bit word (R13). -/
abbrev Word := BitVec 16

/-- One byte of the big-endian byte view of a segment (20_memory.md R221). -/
abbrev Byte := BitVec 8

/-- A register field: an unsigned 4-bit index of `x[0]` to `x[15]` (30_encoding.md R303). -/
abbrev Reg := BitVec 4

/-- A count of instructions: `counter` and `budget` (10_state.md R135, R136). -/
abbrev Count := BitVec 64

end Sys2Proof
end

