-- ==== Sys2Proof/Config.lean ====
section
/-! DEFINITION. What an implementation fixes and what the spec leaves open (spec/00_scope.md R10 to R12,
spec/93_implementation_defined.md). A constant with no body is a FREE VALUE: nothing is known of it, so what is
proved holds for every choice. EXP_ROOT_ENABLED and PLAYER_COUNT are not here: they are data of `State`. -/

namespace Sys2Proof

/-- The name of a core: the directly run VM, driver or judge (`main`), the testee, or a player by index
(10_state.md R140). -/
inductive Agent where
  | main
  | testee
  | player (p : Nat)
  deriving DecidableEq, Repr

/-- The writing access transactions, each on one named core (10_state.md R154). There is no write of IMEM. -/
inductive Access where
  | writeReg (c : Agent) (r : Reg) (v : Word)
  | writePc (c : Agent) (v : Word)
  | writeData (c : Agent) (a : Word) (v : Word)
  | writeBudget (c : Agent) (n : Count)
  | zeroState (c : Agent)
  deriving DecidableEq, Repr

namespace Config

/-- EXP_ROOT_ENABLED of the machine at `State.reset`: the spec's default (R11). Unsafe only in that reset is one
configuration; every state may hold the other one (log entry 2). -/
def expRootDefault : Bool := false

/-- INITIAL_BUDGET of the machine at `State.reset` (R12, OPEN). DESIGN CHOICE, unsafe: log entry 1. Creation
itself takes the budget as an argument. -/
def initialBudget : Count := BitVec.allOnes 64

/-- The RNG port (60_exceptions.md R860, R861): its raw answer to call number `n` with bound `x`. Free: log
entry 5. -/
opaque rng : Nat → Word → Word

/-- The value of an EXPS or ROOT result that the spec lets be any value (93_implementation_defined.md I4, I6), for
the n-th free value taken. Free: log entry 6. -/
opaque freeWord : Nat → Word

/-- The rounding of the halfway values 0.5 (argument `false`) and -0.5 (argument `true`): whether it goes away from
zero (I5). Free: log entry 8. -/
opaque halfAway : Bool → Bool

/-- ROOT where the real value is 1/2 but binary64 may compute a neighbour of it: whether the result is 1 (else 0),
by radicand and degree. Free: log entry 9. -/
opaque nearHalfUp : Int → Int → Bool

/-- MINOR_VERSION(env), the minor version word of the data preamble (R12, I10). Free: log entry 15. -/
opaque minorVersion : Word → Word

/-- JUDGE_R, the effect of judge descriptor word 7 (R12, I13): the access transactions it performs, given the word
and the number of free values taken. Free: log entry 10. -/
opaque judgeR : Word → Nat → List Access

end Config

end Sys2Proof
end

