-- ==== Sys2Proof/Syntax.lean ====
section
/-! DEFINITION. The instructions of the TinyVM core: one constructor per row of spec/opcode_table.json, in the
table's order. A register operand is named as the encoding's field is (30_encoding.md R302). The thirty-two `ill` rows
are the regions of the encoding space that decode as Illegal (R330, R340); each carries the bits its row leaves
free, so that no bit of a word is lost. -/

namespace Sys2Proof

/-- An instruction, in the order of spec/opcode_table.json. -/
inductive Instr where
  /-- `ret` (40_system.md R405). -/
  | ret
  /-- `cpuid` (40_system.md R410). -/
  | cpuid
  /-- `debug` (40_system.md R415). -/
  | debug
  /-- `time` (40_system.md R420). -/
  | time
  /-- `sw *rA, rV` (41_memory_access.md R450). -/
  | sw (a : Reg) (v : Reg)
  /-- `lw *rA, rD` (41_memory_access.md R455). -/
  | lw (a : Reg) (d : Reg)
  /-- `lwi *rA, rD` (41_memory_access.md R460). -/
  | lwi (a : Reg) (d : Reg)
  /-- `lb rR, imm8` (42_immediate.md R500). -/
  | lb (r : Reg) (imm8 : BitVec 8)
  /-- `lhi rR, imm8` (42_immediate.md R505). -/
  | lhi (r : Reg) (imm8 : BitVec 8)
  /-- `not rS, rD` (43_unary.md R550). -/
  | not (s : Reg) (d : Reg)
  /-- `popcnt rS, rD` (43_unary.md R552). -/
  | popcnt (s : Reg) (d : Reg)
  /-- `clz rS, rD` (43_unary.md R554). -/
  | clz (s : Reg) (d : Reg)
  /-- `ctz rS, rD` (43_unary.md R556). -/
  | ctz (s : Reg) (d : Reg)
  /-- `rnd rS, rD` (43_unary.md R558). -/
  | rnd (s : Reg) (d : Reg)
  /-- `mov rS, rD` (43_unary.md R560). -/
  | mov (s : Reg) (d : Reg)
  /-- `add rS, rD` (44_binary.md R601). -/
  | add (s : Reg) (d : Reg)
  /-- `sub rS, rD` (44_binary.md R603). -/
  | sub (s : Reg) (d : Reg)
  /-- `mul rS, rD` (44_binary.md R605). -/
  | mul (s : Reg) (d : Reg)
  /-- `mulh rS, rD` (44_binary.md R607). -/
  | mulh (s : Reg) (d : Reg)
  /-- `divu rS, rD` (44_binary.md R610). -/
  | divu (s : Reg) (d : Reg)
  /-- `divs rS, rD` (44_binary.md R612). -/
  | divs (s : Reg) (d : Reg)
  /-- `modu rS, rD` (44_binary.md R614). -/
  | modu (s : Reg) (d : Reg)
  /-- `mods rS, rD` (44_binary.md R616). -/
  | mods (s : Reg) (d : Reg)
  /-- `and rS, rD` (44_binary.md R620). -/
  | and (s : Reg) (d : Reg)
  /-- `or rS, rD` (44_binary.md R622). -/
  | or (s : Reg) (d : Reg)
  /-- `xor rS, rD` (44_binary.md R624). -/
  | xor (s : Reg) (d : Reg)
  /-- `shl rS, rD` (44_binary.md R630). -/
  | shl (s : Reg) (d : Reg)
  /-- `shru rS, rD` (44_binary.md R632). -/
  | shru (s : Reg) (d : Reg)
  /-- `shrs rS, rD` (44_binary.md R634). -/
  | shrs (s : Reg) (d : Reg)
  /-- `exps rS, rD` (44_binary.md R640); only when EXP_ROOT_ENABLED. -/
  | exps (s : Reg) (d : Reg)
  /-- `root rS, rD` (44_binary.md R642); only when EXP_ROOT_ENABLED. -/
  | root (s : Reg) (d : Reg)
  /-- `cmp.<flags> rA, rB` (45_compare.md R700). -/
  | cmp (l : Bool) (e : Bool) (g : Bool) (sg : Bool) (a : Reg) (b : Reg)
  /-- `b rR, dist` (46_control_transfer.md R752). -/
  | b (r : Reg) (imm8 : BitVec 8)
  /-- `j dist` (46_control_transfer.md R755). -/
  | j (imm12 : BitVec 12)
  /-- `jr rR, simm8` (46_control_transfer.md R758). -/
  | jr (r : Reg) (imm8 : BitVec 8)
  /-- Illegal words 0x0xxx (40_system.md R400), `w` the free low bits. -/
  | illOp0 (w : BitVec 12)
  /-- Illegal words 0x1xxx, all but 0x102A to 0x102D (40_system.md R400), `w` the low bits. -/
  | illOp1 (w : BitVec 12)
  /-- Illegal words 0x23xx (40_system.md R400), `w` the free low bits. -/
  | illOp2_3 (w : BitVec 8)
  /-- Illegal words 0x24xx (40_system.md R400), `w` the free low bits. -/
  | illOp2_4 (w : BitVec 8)
  /-- Illegal words 0x25xx (40_system.md R400), `w` the free low bits. -/
  | illOp2_5 (w : BitVec 8)
  /-- Illegal words 0x26xx (40_system.md R400), `w` the free low bits. -/
  | illOp2_6 (w : BitVec 8)
  /-- Illegal words 0x27xx (40_system.md R400), `w` the free low bits. -/
  | illOp2_7 (w : BitVec 8)
  /-- Illegal words 0x28xx (40_system.md R400), `w` the free low bits. -/
  | illOp2_8 (w : BitVec 8)
  /-- Illegal words 0x29xx (40_system.md R400), `w` the free low bits. -/
  | illOp2_9 (w : BitVec 8)
  /-- Illegal words 0x2Axx (40_system.md R400), `w` the free low bits. -/
  | illOp2_A (w : BitVec 8)
  /-- Illegal words 0x2Bxx (40_system.md R400), `w` the free low bits. -/
  | illOp2_B (w : BitVec 8)
  /-- Illegal words 0x2Cxx (40_system.md R400), `w` the free low bits. -/
  | illOp2_C (w : BitVec 8)
  /-- Illegal words 0x2Dxx (40_system.md R400), `w` the free low bits. -/
  | illOp2_D (w : BitVec 8)
  /-- Illegal words 0x2Exx (40_system.md R400), `w` the free low bits. -/
  | illOp2_E (w : BitVec 8)
  /-- Illegal words 0x2Fxx (40_system.md R400), `w` the free low bits. -/
  | illOp2_F (w : BitVec 8)
  /-- Illegal words 0x50xx (40_system.md R400), `w` the free low bits. -/
  | illOp5_0 (w : BitVec 8)
  /-- Illegal words 0x51xx (40_system.md R400), `w` the free low bits. -/
  | illOp5_1 (w : BitVec 8)
  /-- Illegal words 0x52xx (40_system.md R400), `w` the free low bits. -/
  | illOp5_2 (w : BitVec 8)
  /-- Illegal words 0x53xx (40_system.md R400), `w` the free low bits. -/
  | illOp5_3 (w : BitVec 8)
  /-- Illegal words 0x54xx (40_system.md R400), `w` the free low bits. -/
  | illOp5_4 (w : BitVec 8)
  /-- Illegal words 0x55xx (40_system.md R400), `w` the free low bits. -/
  | illOp5_5 (w : BitVec 8)
  /-- Illegal words 0x56xx (40_system.md R400), `w` the free low bits. -/
  | illOp5_6 (w : BitVec 8)
  /-- Illegal words 0x57xx (40_system.md R400), `w` the free low bits. -/
  | illOp5_7 (w : BitVec 8)
  /-- Illegal words 0x58xx (40_system.md R400), `w` the free low bits. -/
  | illOp5_8 (w : BitVec 8)
  /-- Illegal words 0x59xx (40_system.md R400), `w` the free low bits. -/
  | illOp5_9 (w : BitVec 8)
  /-- Illegal words 0x6Exx (40_system.md R400), `w` the free low bits; only when EXP_ROOT_ENABLED is false (44_binary.md R645). -/
  | illOp6_E (w : BitVec 8)
  /-- Illegal words 0x6Fxx (40_system.md R400), `w` the free low bits; only when EXP_ROOT_ENABLED is false (44_binary.md R645). -/
  | illOp6_F (w : BitVec 8)
  /-- Illegal words 0x7xxx (40_system.md R400), `w` the free low bits. -/
  | illOp7 (w : BitVec 12)
  /-- Illegal words 0xCxxx (40_system.md R400), `w` the free low bits. -/
  | illOpC (w : BitVec 12)
  /-- Illegal words 0xDxxx (40_system.md R400), `w` the free low bits. -/
  | illOpD (w : BitVec 12)
  /-- Illegal words 0xExxx (40_system.md R400), `w` the free low bits. -/
  | illOpE (w : BitVec 12)
  /-- Illegal words 0xFxxx (40_system.md R400), `w` the free low bits. -/
  | illOpF (w : BitVec 12)
  deriving DecidableEq, Repr

/-- The thirty-two constructors for words that decode as Illegal (30_encoding.md R340). -/
def Instr.isIllegal : Instr → Bool
  | .ret => false
  | .cpuid => false
  | .debug => false
  | .time => false
  | .sw _ _ => false
  | .lw _ _ => false
  | .lwi _ _ => false
  | .lb _ _ => false
  | .lhi _ _ => false
  | .not _ _ => false
  | .popcnt _ _ => false
  | .clz _ _ => false
  | .ctz _ _ => false
  | .rnd _ _ => false
  | .mov _ _ => false
  | .add _ _ => false
  | .sub _ _ => false
  | .mul _ _ => false
  | .mulh _ _ => false
  | .divu _ _ => false
  | .divs _ _ => false
  | .modu _ _ => false
  | .mods _ _ => false
  | .and _ _ => false
  | .or _ _ => false
  | .xor _ _ => false
  | .shl _ _ => false
  | .shru _ _ => false
  | .shrs _ _ => false
  | .exps _ _ => false
  | .root _ _ => false
  | .cmp _ _ _ _ _ _ => false
  | .b _ _ => false
  | .j _ => false
  | .jr _ _ => false
  | .illOp0 _ => true
  | .illOp1 _ => true
  | .illOp2_3 _ => true
  | .illOp2_4 _ => true
  | .illOp2_5 _ => true
  | .illOp2_6 _ => true
  | .illOp2_7 _ => true
  | .illOp2_8 _ => true
  | .illOp2_9 _ => true
  | .illOp2_A _ => true
  | .illOp2_B _ => true
  | .illOp2_C _ => true
  | .illOp2_D _ => true
  | .illOp2_E _ => true
  | .illOp2_F _ => true
  | .illOp5_0 _ => true
  | .illOp5_1 _ => true
  | .illOp5_2 _ => true
  | .illOp5_3 _ => true
  | .illOp5_4 _ => true
  | .illOp5_5 _ => true
  | .illOp5_6 _ => true
  | .illOp5_7 _ => true
  | .illOp5_8 _ => true
  | .illOp5_9 _ => true
  | .illOp6_E _ => true
  | .illOp6_F _ => true
  | .illOp7 _ => true
  | .illOpC _ => true
  | .illOpD _ => true
  | .illOpE _ => true
  | .illOpF _ => true

end Sys2Proof
end

