-- ==== Sys2Proof/WellFormed.lean ====
section
/-! DEFINITION. Which instruction terms stand for a word of the machine: the two conditions that
spec/opcode_table.json puts on its rows ("except" of `ill.op1`, "condition" of `exps`, `root`, `ill.op6.E` and
`ill.op6.F`; spec/30_encoding.md R330, spec/44_binary.md R645). -/

namespace Sys2Proof

/-- The low twelve bits of a word 0x1xxx that is a legal instruction: 0x102A `ret`, 0x102B `cpuid`, 0x102C `debug`,
0x102D `time` (R330). -/
def isSystemPayload (w : BitVec 12) : Bool :=
  w == 0x02A || w == 0x02B || w == 0x02C || w == 0x02D

/-- Well-formedness with EXP_ROOT_ENABLED = `expRoot`: an `illOp1` term is no word of a system instruction, EXPS
and ROOT exist only when enabled, and their Illegal rows only when not (R330, R645). -/
def WellFormed (expRoot : Bool) : Instr → Bool
  | .ret => true
  | .cpuid => true
  | .debug => true
  | .time => true
  | .sw _ _ => true
  | .lw _ _ => true
  | .lwi _ _ => true
  | .lb _ _ => true
  | .lhi _ _ => true
  | .not _ _ => true
  | .popcnt _ _ => true
  | .clz _ _ => true
  | .ctz _ _ => true
  | .rnd _ _ => true
  | .mov _ _ => true
  | .add _ _ => true
  | .sub _ _ => true
  | .mul _ _ => true
  | .mulh _ _ => true
  | .divu _ _ => true
  | .divs _ _ => true
  | .modu _ _ => true
  | .mods _ _ => true
  | .and _ _ => true
  | .or _ _ => true
  | .xor _ _ => true
  | .shl _ _ => true
  | .shru _ _ => true
  | .shrs _ _ => true
  | .exps _ _ => expRoot
  | .root _ _ => expRoot
  | .cmp _ _ _ _ _ _ => true
  | .b _ _ => true
  | .j _ => true
  | .jr _ _ => true
  | .illOp0 _ => true
  | .illOp1 w => !isSystemPayload w
  | .illOp2_3 _ => true
  | .illOp2_4 _ => true
  | .illOp2_5 _ => true
  | .illOp2_6 _ => true
  | .illOp2_7 _ => true
  | .illOp2_8 _ => true
  | .illOp2_9 _ => true
  | .illOp2_A _ => true
  | .illOp2_B _ => true
  | .illOp2_C _ => true
  | .illOp2_D _ => true
  | .illOp2_E _ => true
  | .illOp2_F _ => true
  | .illOp5_0 _ => true
  | .illOp5_1 _ => true
  | .illOp5_2 _ => true
  | .illOp5_3 _ => true
  | .illOp5_4 _ => true
  | .illOp5_5 _ => true
  | .illOp5_6 _ => true
  | .illOp5_7 _ => true
  | .illOp5_8 _ => true
  | .illOp5_9 _ => true
  | .illOp6_E _ => !expRoot
  | .illOp6_F _ => !expRoot
  | .illOp7 _ => true
  | .illOpC _ => true
  | .illOpD _ => true
  | .illOpE _ => true
  | .illOpF _ => true

end Sys2Proof
end

