-- ==== Sys2Proof/Decode.lean ====
section
/-! DEFINITION. The decoder, the prefix tree of spec/30_encoding.md R330 keyed on the top four bits with a nested
four-bit discriminator, and after it the encoder, written from the formats of R302. `decode` is total on words:
every word is exactly one instruction, Illegal ones included (R301). -/

namespace Sys2Proof

/-- `w[15:12]`, the opcode (R302). -/
def opField (w : Word) : BitVec 4 := w.extractLsb' 12 4

/-- `w[11:8]`, the sub-op, the register of format RI8, or the compare flags (R302). -/
def fField (w : Word) : BitVec 4 := w.extractLsb' 8 4

/-- `w[7:4]`, the first register of formats RR and CMP (R302). -/
def hiField (w : Word) : BitVec 4 := w.extractLsb' 4 4

/-- `w[3:0]`, the second register of formats RR and CMP (R302). -/
def loField (w : Word) : BitVec 4 := w.extractLsb' 0 4

/-- `w[7:0]`, `imm8` (R302). -/
def imm8Field (w : Word) : BitVec 8 := w.extractLsb' 0 8

/-- `w[11:0]`, `imm12` (R302). -/
def imm12Field (w : Word) : BitVec 12 := w.extractLsb' 0 12

/-- Opcode 0x1: the four system words, all others Illegal (R330). -/
def decodeSystem (p : BitVec 12) : Instr :=
  if p = 0x02A then .ret
  else if p = 0x02B then .cpuid
  else if p = 0x02C then .debug
  else if p = 0x02D then .time
  else .illOp1 p

/-- Opcode 0x2: loads and stores by the sub-op, the rest Illegal (R330). -/
def decodeMemory (f hi lo : BitVec 4) (p : BitVec 8) : Instr :=
  match f.toNat with
  | 0 => .sw hi lo
  | 1 => .lw hi lo
  | 2 => .lwi hi lo
  | 3 => .illOp2_3 p
  | 4 => .illOp2_4 p
  | 5 => .illOp2_5 p
  | 6 => .illOp2_6 p
  | 7 => .illOp2_7 p
  | 8 => .illOp2_8 p
  | 9 => .illOp2_9 p
  | 10 => .illOp2_A p
  | 11 => .illOp2_B p
  | 12 => .illOp2_C p
  | 13 => .illOp2_D p
  | 14 => .illOp2_E p
  | _ => .illOp2_F p

/-- Opcode 0x5: THE table of the unary selectors (R331, a decision of the spec from general knowledge: log entry 13),
the rest Illegal (R565). -/
def decodeUnary (f hi lo : BitVec 4) (p : BitVec 8) : Instr :=
  match f.toNat with
  | 0 => .illOp5_0 p
  | 1 => .illOp5_1 p
  | 2 => .illOp5_2 p
  | 3 => .illOp5_3 p
  | 4 => .illOp5_4 p
  | 5 => .illOp5_5 p
  | 6 => .illOp5_6 p
  | 7 => .illOp5_7 p
  | 8 => .illOp5_8 p
  | 9 => .illOp5_9 p
  | 10 => .not hi lo
  | 11 => .popcnt hi lo
  | 12 => .clz hi lo
  | 13 => .ctz hi lo
  | 14 => .rnd hi lo
  | _ => .mov hi lo

/-- Opcode 0x6: the table of the binary selectors (R332); 0xE and 0xF are Illegal when EXP_ROOT_ENABLED is false
(R645). -/
def decodeBinary (expRoot : Bool) (f hi lo : BitVec 4) (p : BitVec 8) : Instr :=
  match f.toNat with
  | 0 => .add hi lo
  | 1 => .sub hi lo
  | 2 => .mul hi lo
  | 3 => .mulh hi lo
  | 4 => .divu hi lo
  | 5 => .divs hi lo
  | 6 => .modu hi lo
  | 7 => .mods hi lo
  | 8 => .and hi lo
  | 9 => .or hi lo
  | 10 => .xor hi lo
  | 11 => .shl hi lo
  | 12 => .shru hi lo
  | 13 => .shrs hi lo
  | 14 => if expRoot then .exps hi lo else .illOp6_E p
  | _ => if expRoot then .root hi lo else .illOp6_F p

/-- The instruction a word stands for, with EXP_ROOT_ENABLED = `expRoot` (R330). -/
def decode (expRoot : Bool) (w : Word) : Instr :=
  match (opField w).toNat with
  | 0 => .illOp0 (imm12Field w)
  | 1 => decodeSystem (imm12Field w)
  | 2 => decodeMemory (fField w) (hiField w) (loField w) (imm8Field w)
  | 3 => .lb (fField w) (imm8Field w)
  | 4 => .lhi (fField w) (imm8Field w)
  | 5 => decodeUnary (fField w) (hiField w) (loField w) (imm8Field w)
  | 6 => decodeBinary expRoot (fField w) (hiField w) (loField w) (imm8Field w)
  | 7 => .illOp7 (imm12Field w)
  | 8 => .cmp (w.getLsbD 11) (w.getLsbD 10) (w.getLsbD 9) (w.getLsbD 8) (hiField w) (loField w)
  | 9 => .b (fField w) (imm8Field w)
  | 10 => .j (imm12Field w)
  | 11 => .jr (fField w) (imm8Field w)
  | 12 => .illOpC (imm12Field w)
  | 13 => .illOpD (imm12Field w)
  | 14 => .illOpE (imm12Field w)
  | _ => .illOpF (imm12Field w)

/-- Why bytes are no instruction: fewer than the two bytes of a word. Safe: the machine's own fetch never meets it,
since every address of IMEM holds a whole word (R300, 20_memory.md R201). -/
inductive DecodeRefusal where
  | truncated
  deriving DecidableEq, Repr

/-- The first instruction of a byte stream, high byte first (20_memory.md R231), with the rest of the stream. -/
def decodeBytes (expRoot : Bool) : List Byte → Except DecodeRefusal (Instr × List Byte)
  | hi :: lo :: rest => .ok (decode expRoot (hi ++ lo), rest)
  | _ => .error .truncated

/-- The two bytes of a word as IMEM stores them, high byte first (20_memory.md R231). -/
def wordBytes (w : Word) : List Byte := [w.extractLsb' 8 8, w.extractLsb' 0 8]

/-- What the decoder reads from an instruction whose bits are `w` (one word, so at most 16 bits), with
EXP_ROOT_ENABLED at the spec's default (R11; log entry 2). -/
def decodeTableWord (nbits w : Nat) : Option Instr :=
  match decodeBytes Config.expRootDefault (wordBytes (BitVec.ofNat 16 (w % 2 ^ nbits))) with
  | .ok (i, _) => some i
  | .error _ => none

/-- A word of format RR or N from its four nibbles (R302). -/
def rrWord (op f hi lo : BitVec 4) : Word := op ++ f ++ hi ++ lo

/-- A word of format RI8, or one with a fixed high byte, from its parts (R302). -/
def ri8Word (op f : BitVec 4) (imm : BitVec 8) : Word := op ++ f ++ imm

/-- A word of format I12 from its parts (R302). -/
def i12Word (op : BitVec 4) (imm : BitVec 12) : Word := op ++ imm

/-- The nibble of the compare flags: L bit 11, E bit 10, G bit 9, S bit 8 (R316). -/
def flagNibble (l e g sg : Bool) : BitVec 4 :=
  BitVec.ofBool l ++ BitVec.ofBool e ++ BitVec.ofBool g ++ BitVec.ofBool sg

/-- The word of an instruction (R302, R330 to R332). -/
def encode : Instr → Word
  | .ret => 0x102A
  | .cpuid => 0x102B
  | .debug => 0x102C
  | .time => 0x102D
  | .sw a v => rrWord 0x2 0x0 a v
  | .lw a d => rrWord 0x2 0x1 a d
  | .lwi a d => rrWord 0x2 0x2 a d
  | .lb r imm8 => ri8Word 0x3 r imm8
  | .lhi r imm8 => ri8Word 0x4 r imm8
  | .not s d => rrWord 0x5 0xA s d
  | .popcnt s d => rrWord 0x5 0xB s d
  | .clz s d => rrWord 0x5 0xC s d
  | .ctz s d => rrWord 0x5 0xD s d
  | .rnd s d => rrWord 0x5 0xE s d
  | .mov s d => rrWord 0x5 0xF s d
  | .add s d => rrWord 0x6 0x0 s d
  | .sub s d => rrWord 0x6 0x1 s d
  | .mul s d => rrWord 0x6 0x2 s d
  | .mulh s d => rrWord 0x6 0x3 s d
  | .divu s d => rrWord 0x6 0x4 s d
  | .divs s d => rrWord 0x6 0x5 s d
  | .modu s d => rrWord 0x6 0x6 s d
  | .mods s d => rrWord 0x6 0x7 s d
  | .and s d => rrWord 0x6 0x8 s d
  | .or s d => rrWord 0x6 0x9 s d
  | .xor s d => rrWord 0x6 0xA s d
  | .shl s d => rrWord 0x6 0xB s d
  | .shru s d => rrWord 0x6 0xC s d
  | .shrs s d => rrWord 0x6 0xD s d
  | .exps s d => rrWord 0x6 0xE s d
  | .root s d => rrWord 0x6 0xF s d
  | .cmp l e g sg a b => rrWord 0x8 (flagNibble l e g sg) a b
  | .b r imm8 => ri8Word 0x9 r imm8
  | .j imm12 => i12Word 0xA imm12
  | .jr r imm8 => ri8Word 0xB r imm8
  | .illOp0 w => i12Word 0x0 w
  | .illOp1 w => i12Word 0x1 w
  | .illOp2_3 w => ri8Word 0x2 0x3 w
  | .illOp2_4 w => ri8Word 0x2 0x4 w
  | .illOp2_5 w => ri8Word 0x2 0x5 w
  | .illOp2_6 w => ri8Word 0x2 0x6 w
  | .illOp2_7 w => ri8Word 0x2 0x7 w
  | .illOp2_8 w => ri8Word 0x2 0x8 w
  | .illOp2_9 w => ri8Word 0x2 0x9 w
  | .illOp2_A w => ri8Word 0x2 0xA w
  | .illOp2_B w => ri8Word 0x2 0xB w
  | .illOp2_C w => ri8Word 0x2 0xC w
  | .illOp2_D w => ri8Word 0x2 0xD w
  | .illOp2_E w => ri8Word 0x2 0xE w
  | .illOp2_F w => ri8Word 0x2 0xF w
  | .illOp5_0 w => ri8Word 0x5 0x0 w
  | .illOp5_1 w => ri8Word 0x5 0x1 w
  | .illOp5_2 w => ri8Word 0x5 0x2 w
  | .illOp5_3 w => ri8Word 0x5 0x3 w
  | .illOp5_4 w => ri8Word 0x5 0x4 w
  | .illOp5_5 w => ri8Word 0x5 0x5 w
  | .illOp5_6 w => ri8Word 0x5 0x6 w
  | .illOp5_7 w => ri8Word 0x5 0x7 w
  | .illOp5_8 w => ri8Word 0x5 0x8 w
  | .illOp5_9 w => ri8Word 0x5 0x9 w
  | .illOp6_E w => ri8Word 0x6 0xE w
  | .illOp6_F w => ri8Word 0x6 0xF w
  | .illOp7 w => i12Word 0x7 w
  | .illOpC w => i12Word 0xC w
  | .illOpD w => i12Word 0xD w
  | .illOpE w => i12Word 0xE w
  | .illOpF w => i12Word 0xF w

end Sys2Proof
end

