-- ==== Sys2Proof/Machine/State.lean ====
section
/-! DEFINITION. The state of the machine as plain data: every piece of state spec/10_state.md gives a core and the
coordinator, the model's own output and free-value fields, the reasons a step could stop, and the state after reset
(spec/70_reset_and_hazards.md R1000 to R1004). -/

namespace Sys2Proof.Machine

/-- One segment of 65 536 words in its byte view (20_memory.md R221): byte address `2a` is the high byte of word
`a`, `2a + 1` its low byte. A byte not listed reads as 0 (R202, R231); the canonical form is `Memory.wf`. -/
abbrev Memory := List Host.Cell

/-- The run state of a core (10_state.md R130). -/
inductive Status where
  | running
  | suspended
  | haltedIllegal
  deriving DecidableEq, Repr

/-- What a step reports (10_state.md R151, 60_exceptions.md R800). -/
inductive StepResult where
  | continued
  | yield (w : Word)
  | illegalInstruction
  | debugDump
  | timeOut
  deriving DecidableEq, Repr

/-- What a run reports (60_exceptions.md R841). -/
inductive RunOutcome where
  | yielded (w : Word)
  | illegalInstruction
  | timeOut
  deriving DecidableEq, Repr

/-- One core: the eight pieces of state of 10_state.md section 1. -/
structure Vm where
  /-- `x[0] .. x[15]` (R100). -/
  x : Vector Word 16
  /-- The program counter (R110). -/
  pc : Word
  /-- The instruction segment (20_memory.md R201). -/
  imem : Memory
  /-- The data segment (20_memory.md R202). -/
  dmem : Memory
  /-- Retired instructions over the VM's lifetime (R136). -/
  counter : Count
  /-- Instructions the core may still retire (R135). -/
  budget : Count
  /-- The run state (R130). -/
  status : Status
  /-- The value the last `ret` reported (R131). -/
  yieldLatch : Word
  deriving DecidableEq, Repr

/-- The payload of a DebugDump event: pc of the `debug`, the registers and the counter (40_system.md R415). -/
structure DebugEvent where
  pc : Word
  x : Vector Word 16
  counter : Count
  deriving DecidableEq, Repr

/-- How the cores are run: one VM by a host (10_state.md R156), or a coordinator's protocol (65_coordination.md
R900). -/
inductive Protocol where
  | direct
  | testDriver
  | judge
  deriving DecidableEq, Repr

/-- The reasons of a fatal driver error (65_coordination.md R912). -/
inductive DriverError where
  | unknownRequest (code : Word)
  | zeroLimit
  | badMagic
  | badDescriptor
  | badPlayer
  | zeroAllotment
  deriving DecidableEq, Repr

/-- The outcome of a coordinated run (65_coordination.md R912). -/
inductive CoordOutcome where
  | done (n : Word) (results : List Word)
  | driverIllegal
  | driverTimeOut
  | driverError (reason : DriverError)
  | judgment (scores : List Int)
  deriving DecidableEq, Repr

/-- The coordinator's control state (10_state.md R141, 65_coordination.md R910, R953). A controlled core's run carries
`allow`, the allowance loaded for it, which the debit at its end needs (R931, R953). -/
inductive CState where
  | runDriver
  | dispatch
  | runTestee (allow : Count)
  | runPlayer (p : Nat) (allow : Count)
  | finished (o : CoordOutcome)
  deriving DecidableEq, Repr

/-- Why a step could fault: never. IllegalInstruction and TimeOut are outcomes of a step that leaves a next state
(60_exceptions.md R803, R820), and no other event faults (R822), so this type has no constructor. -/
inductive Fault where
  deriving DecidableEq, Repr

/-- Why something is turned away. -/
inductive Refusal where
  /-- An instruction with no meaning yet, by its mnemonic. No arm of this model raises it. Safe. -/
  | notModelled (mnemonic : String)
  /-- An image of more than 131 072 bytes: the loader refuses it and no core is created (20_memory.md R231). Raised by
  `createFromImage` only, never by a step. Safe. -/
  | imageTooLong
  deriving DecidableEq, Repr

/-- The whole machine: its cores, the coordinator, and the model's own fields. -/
structure State where
  /-- The protocol, fixed when the machine is built (65_coordination.md R900). -/
  protocol : Protocol
  /-- EXP_ROOT_ENABLED (00_scope.md R11), fixed when the machine is built. -/
  expRootEnabled : Bool
  /-- The directly run VM, the driver or the judge (10_state.md R140). -/
  main : Vm
  /-- The testee of the TEST_DRIVER protocol (10_state.md R140). -/
  testee : Vm
  /-- The players of the JUDGE protocol; their number is PLAYER_COUNT (10_state.md R140, 00_scope.md R12). -/
  players : List Vm
  /-- The coordinator's control state (10_state.md R141). -/
  cstate : CState
  /-- The per-execute step limit of request 8; `none` is NONE (10_state.md R142). -/
  testeeLimit : Option (BitVec 48)
  /-- MODEL'S OWN: what the last step reported (10_state.md R151); log entry 12. -/
  result : Option StepResult
  /-- MODEL'S OWN: the DebugDump events delivered so far, oldest first (60_exceptions.md R862); log entry 12. -/
  events : List DebugEvent
  /-- MODEL'S OWN: calls of the RNG port so far, over all cores (60_exceptions.md R861); log entry 5. -/
  rngCalls : Nat
  /-- MODEL'S OWN: other free values taken so far; log entry 6. -/
  freeDraws : Nat
  deriving DecidableEq, Repr

/-- A core right after creation with instruction segment `image` and budget `budget` (70_reset_and_hazards.md
R1000). -/
def Vm.created (image : Memory) (budget : Count) : Vm where
  x := Vector.replicate 16 0
  pc := 0
  imem := image
  dmem := []
  counter := 0
  budget := budget
  status := .running
  yieldLatch := 0

/-- The machine around freshly created cores, with the coordinator as at the start of a run (R1004). -/
def State.fresh (protocol : Protocol) (expRoot : Bool) (main testee : Vm) (players : List Vm) : State where
  protocol := protocol
  expRootEnabled := expRoot
  main := main
  testee := testee
  players := players
  cstate := .runDriver
  testeeLimit := none
  result := none
  events := []
  rngCalls := 0
  freeDraws := 0

/-- The machine after reset: a directly run VM just created (R1000), no image loaded (log entry 3), its budget the
log's value (entry 1), no controlled core (entry 4). -/
def State.reset : State :=
  State.fresh .direct Config.expRootDefault (Vm.created [] Config.initialBudget) (Vm.created [] 0) []

end Sys2Proof.Machine
end

