-- ==== Sys2Proof/Machine/Ops.lean ====
section
/-! DEFINITION. The named operations the meanings are written over: the byte view of a segment and its words
(spec/20_memory.md), the register file, the core that is advancing, the retire phase (spec/60_exceptions.md R806),
taking the one fault of an instruction (R820) and the resumption after a `ret` (spec/10_state.md R152). -/

namespace Sys2Proof.Machine

/-! ### A segment as bytes and words (20_memory.md) -/

/-- Bytes in the byte view of a segment: 65 536 words of two bytes (R200, R231). -/
def segmentBytes : Nat := 131072

/-- What an unlisted byte reads as: a fresh segment holds 0 (R202, R231). -/
def unlistedByte : Byte := 0

/-- The canonical form from byte address `lo` on: rising addresses inside the segment, no listed byte equal to an
unlisted one. -/
def Memory.wfFrom (lo : Nat) : Memory → Bool
  | [] => true
  | (a, v) :: rest =>
    decide (lo ≤ a) && decide (a < segmentBytes) && decide (v ≠ unlistedByte) && Memory.wfFrom (a + 1) rest

/-- The canonical form of a segment: equal segments are equal lists. -/
def Memory.wf (m : Memory) : Bool := Memory.wfFrom 0 m

/-- The byte at a byte address (R221). -/
def Memory.readByte : Memory → Nat → Byte
  | [], _ => unlistedByte
  | (k, v) :: rest, a => if k = a then v else Memory.readByte rest a

/-- `cell` in front of `rest`, or nothing where its byte is what an unlisted one reads as. -/
def Memory.consCell (a : Nat) (v : Byte) (rest : Memory) : Memory :=
  if v = unlistedByte then rest else (a, v) :: rest

/-- The segment after a write of one byte, in canonical form again. -/
def Memory.writeByte : Memory → Nat → Byte → Memory
  | [], a, v => Memory.consCell a v []
  | (k, u) :: rest, a, v =>
    if a < k then Memory.consCell a v ((k, u) :: rest)
    else if a = k then Memory.consCell a v rest
    else (k, u) :: Memory.writeByte rest a v

/-- The byte address of the high byte of word `a` (R221). -/
def byteAddr (a : Word) : Nat := 2 * a.toNat

/-- The word at address `a`: high byte first (R221). -/
def Memory.readWord (m : Memory) (a : Word) : Word :=
  m.readByte (byteAddr a) ++ m.readByte (byteAddr a + 1)

/-- The segment after a write of word `v` at address `a` (R210, R221). -/
def Memory.writeWord (m : Memory) (a v : Word) : Memory :=
  (m.writeByte (byteAddr a) (v.extractLsb' 8 8)).writeByte (byteAddr a + 1) (v.extractLsb' 0 8)

/-- The words `start, start + 1, …, start + n - 1`, wrapping modulo 2^16 (65_coordination.md R925). -/
def wrapRange (start : Word) (n : Nat) : List Word :=
  (List.range n).map fun j => start + BitVec.ofNat 16 j

/-- Words written one after the other (R210, 65_coordination.md R925). -/
def Memory.writeWords (m : Memory) : List (Word × Word) → Memory
  | [] => m
  | (a, v) :: rest => (m.writeWord a v).writeWords rest

/-- `len` words from `srcA` of `src` copied to `dstA` of `dst`, in increasing offset order, both addresses wrapping
(65_coordination.md R925). -/
def Memory.copy (dst : Memory) (dstA : Word) (src : Memory) (srcA : Word) (len : Nat) : Memory :=
  dst.writeWords ((wrapRange dstA len).zip ((wrapRange srcA len).map src.readWord))

/-- The segment a big-endian image loads, its missing bytes 0 (R231). -/
def Memory.ofImageFrom (a : Nat) : List Byte → Memory
  | [] => []
  | v :: rest => Memory.consCell a v (Memory.ofImageFrom (a + 1) rest)

/-- The segment a big-endian image loads (R231); a longer image than a segment is turned away by `createFromImage`. -/
def Memory.ofImage (image : List Byte) : Memory := Memory.ofImageFrom 0 image

/-! ### One core (10_state.md) -/

/-- Reads `x[r]` (R100, R101). -/
def Vm.reg (c : Vm) (r : Reg) : Word := c.x[r.toNat]'r.isLt

/-- Writes `x[r]`; no register is hardwired (R101). -/
def Vm.setReg (c : Vm) (r : Reg) (v : Word) : Vm := { c with x := c.x.set r.toNat v r.isLt }

/-- `MemRead(a, 1)` (00_scope.md R16). -/
def Vm.readData (c : Vm) (a : Word) : Word := c.dmem.readWord a

/-- `MemWrite(a, 1, v)` (00_scope.md R16). -/
def Vm.writeData (c : Vm) (a v : Word) : Vm := { c with dmem := c.dmem.writeWord a v }

/-- `IMemRead(a)` (00_scope.md R16). -/
def Vm.readInstr (c : Vm) (a : Word) : Word := c.imem.readWord a

/-- The default next pc, the wrapping increment (R111). -/
def Vm.nextPc (c : Vm) : Word := c.pc + 1

/-- Resume: SUSPENDED becomes RUNNING, nothing else changes (R152). It is the only return from a stopped core. -/
def Vm.resume (c : Vm) : Vm :=
  match c.status with
  | .suspended => { c with status := .running }
  | .running | .haltedIllegal => c

/-- The retire phase: next pc, one more instruction counted, one less in the budget (60_exceptions.md R806). -/
def Vm.retire (c : Vm) (next : Word) : Vm :=
  { c with pc := next, counter := c.counter + 1, budget := c.budget - 1 }

/-- ZeroState, the core's part of request 7: data, registers and pc zeroed, RUNNING, latch 0; IMEM, counter and
budget stay (65_coordination.md R937). -/
def Vm.zeroState (c : Vm) : Vm :=
  { c with dmem := [], x := Vector.replicate 16 0, pc := 0, status := .running, yieldLatch := 0 }

/-- The payload of the DebugDump event (40_system.md R415). -/
def Vm.snapshot (c : Vm) : DebugEvent := { pc := c.pc, x := c.x, counter := c.counter }

/-! ### The cores of the machine (10_state.md R140) -/

/-- The named core. An index that names no player falls back on `main`; no run does this (log entry 16). -/
def State.vm (s : State) : Agent → Vm
  | .main => s.main
  | .testee => s.testee
  | .player p => s.players.getD p s.main

/-- The machine with the named core replaced, by the same convention as `State.vm`. -/
def State.setVm (s : State) (a : Agent) (c : Vm) : State :=
  match a with
  | .main => { s with main := c }
  | .testee => { s with testee := c }
  | .player p => if p < s.players.length then { s with players := s.players.set p c } else { s with main := c }

/-- The core that is advancing: the controlled one while its run is in progress, else the main one
(60_exceptions.md R875). -/
def State.agent (s : State) : Agent :=
  match s.cstate with
  | .runTestee _ => .testee
  | .runPlayer p _ => .player p
  | .runDriver | .dispatch | .finished _ => .main

/-- The core that executes. -/
def State.cur (s : State) : Vm := s.vm s.agent

/-- The machine with the executing core replaced. -/
def State.setCur (s : State) (c : Vm) : State := s.setVm s.agent c

/-- The machine with a step's result reported and nothing else changed (10_state.md R151). -/
def State.report (s : State) (r : StepResult) : State := { s with result := some r }

/-! ### How an instruction ends (60_exceptions.md) -/

/-- An instruction that retires: the executing core with its writes `c`, its next pc, and the step's result, all at
once (R805, R806). -/
def State.retire (s : State) (c : Vm) (next : Word) (r : StepResult) : Host.Outcome State Fault Refusal :=
  .next ((s.setCur (c.retire next)).report r)

/-- An instruction that writes one register, goes on to the next word and answers Continue (R806, R807). -/
def State.retireReg (s : State) (d : Reg) (v : Word) : Host.Outcome State Fault Refusal :=
  s.retire (s.cur.setReg d v) s.cur.nextPc .continued

/-- Taking IllegalInstruction, the one fault of an instruction: HALTED_ILLEGAL, and no register, data word, pc,
counter or budget changes (R820, 40_system.md R400, R401). -/
def State.takeIllegal (s : State) : Host.Outcome State Fault Refusal :=
  .next ((s.setCur { s.cur with status := .haltedIllegal }).report .illegalInstruction)

/-- The word the next step fetches, `IMEM[pc]` (R802). -/
def State.fetchWord (s : State) : Word := s.cur.readInstr s.cur.pc

/-- A free value in `[0, bound]`, call number `n` of the RNG port (R860; log entry 5). -/
def drawRng (n : Nat) (bound : Word) : Word :=
  BitVec.ofNat 16 ((Config.rng n bound).toNat % (bound.toNat + 1))

end Sys2Proof.Machine
end

