-- ==== Sys2Proof/Machine/Operands.lean ====
section
/-! DEFINITION. The operand forms: the immediates of spec/30_encoding.md section 2, the wrapping targets of
spec/46_control_transfer.md, and the two readings of a word (spec/00_scope.md R14). -/

namespace Sys2Proof.Machine

/-- `s16(w)`, the two's-complement reading (R14). -/
def s16 (w : Word) : Int := w.toInt

/-- `u16(i)`, an integer modulo 2^16 (R14). -/
def u16 (i : Int) : Word := BitVec.ofInt 16 i

/-- `sext_8(imm8)` (30_encoding.md R310, R312). -/
def sext8 (imm : BitVec 8) : Word := imm.signExtend 16

/-- The branch offset: +2 .. +129 or -1 .. -128 (30_encoding.md R313). -/
def off8 (imm : BitVec 8) : Int :=
  if imm.getLsbD 7 then -(1 + (imm.extractLsb' 0 7).toNat) else 2 + (imm.extractLsb' 0 7).toNat

/-- The jump offset: +2 .. +2049 or -1 .. -2048 (30_encoding.md R314). -/
def off12 (imm : BitVec 12) : Int :=
  if imm.getLsbD 11 then -(1 + (imm.extractLsb' 0 11).toNat) else 2 + (imm.extractLsb' 0 11).toNat

/-- `u16(pc + offset)` (46_control_transfer.md R750, R752, R755). -/
def target (pc : Word) (offset : Int) : Word := u16 (pc.toNat + offset)

/-- The value LHI leaves: `imm8` as the high byte, the old low byte kept (30_encoding.md R311, 42_immediate.md
R505). -/
def withHighByte (imm : BitVec 8) (old : Word) : Word := imm ++ old.extractLsb' 0 8

/-- A unary operation: `x[s]` read, then `x[d]` written (43_unary.md). -/
def State.unary (s : State) (src dst : Reg) (f : Word → Word) : Host.Outcome State Fault Refusal :=
  s.retireReg dst (f (s.cur.reg src))

/-- A binary operation: `x[d]` is the left-hand operand and the destination, `x[s]` the right-hand operand, both
read before the write (44_binary.md R600). -/
def State.binary (s : State) (src dst : Reg) (f : Word → Word → Word) : Host.Outcome State Fault Refusal :=
  s.retireReg dst (f (s.cur.reg dst) (s.cur.reg src))

end Sys2Proof.Machine
end

