-- ==== Sys2Proof/Machine/Arith.lean ====
section
/-! DEFINITION. The value functions of the unary and binary operations (spec/43_unary.md, spec/44_binary.md R601 to
R634): exact integer arithmetic, narrowed at the end (R650). -/

namespace Sys2Proof.Machine

/-! ### Unary (43_unary.md) -/

/-- NOT (R550). -/
def notValue (a : Word) : Word := a ^^^ 0xFFFF

/-- POPCNT: the number of set bits (R552). -/
def popcntValue (a : Word) : Word := BitVec.ofNat 16 ((List.range 16).countP fun i => a.getLsbD i)

/-- CLZ: how far below bit 15 the most significant set bit lies, 16 for 0 (R554). -/
def clzValue (a : Word) : Word :=
  BitVec.ofNat 16 (((List.range 16).find? fun i => a.getLsbD (15 - i)).getD 16)

/-- CTZ: the index of the least significant set bit, 16 for 0 (R556). -/
def ctzValue (a : Word) : Word :=
  BitVec.ofNat 16 (((List.range 16).find? fun i => a.getLsbD i).getD 16)

/-! ### Additive and multiplicative (44_binary.md section 2) -/

/-- ADD modulo 2^16 (R601). -/
def addValue (lhs rhs : Word) : Word := u16 (lhs.toNat + rhs.toNat)

/-- SUB modulo 2^16 (R603). -/
def subValue (lhs rhs : Word) : Word := u16 (lhs.toNat - rhs.toNat)

/-- MUL: bits 15:0 of the product (R605). -/
def mulValue (lhs rhs : Word) : Word := BitVec.ofNat 16 (lhs.toNat * rhs.toNat)

/-- MULH: bits 31:16 of the unsigned product (R607). -/
def mulhValue (lhs rhs : Word) : Word := BitVec.ofNat 16 (lhs.toNat * rhs.toNat / 65536)

/-- DIVU: unsigned quotient, 0xFFFF for a zero divisor (R610). -/
def divuValue (lhs rhs : Word) : Word :=
  if rhs = 0 then 0xFFFF else BitVec.ofNat 16 (lhs.toNat / rhs.toNat)

/-- DIVS: floor quotient of the signed readings, 0x7FFF for a zero divisor, -32768 / -1 wrapping (R612). -/
def divsValue (lhs rhs : Word) : Word :=
  if s16 rhs = 0 then 0x7FFF else u16 (Int.fdiv (s16 lhs) (s16 rhs))

/-- MODU: unsigned remainder, 0 for a zero divisor (R614). -/
def moduValue (lhs rhs : Word) : Word :=
  if rhs = 0 then 0 else BitVec.ofNat 16 (lhs.toNat % rhs.toNat)

/-- MODS: floor remainder of the signed readings, 0 for a zero divisor (R616). -/
def modsValue (lhs rhs : Word) : Word :=
  if s16 rhs = 0 then 0 else u16 (Int.fmod (s16 lhs) (s16 rhs))

/-! ### Bitwise (44_binary.md section 3) -/

/-- AND (R620). -/
def andValue (lhs rhs : Word) : Word := lhs &&& rhs

/-- OR (R622). -/
def orValue (lhs rhs : Word) : Word := lhs ||| rhs

/-- XOR (R624). -/
def xorValue (lhs rhs : Word) : Word := lhs ^^^ rhs

/-! ### Shifts by the whole 16-bit amount (44_binary.md section 4) -/

/-- SHL: 0 from an amount of 16 on (R630). -/
def shlValue (lhs rhs : Word) : Word :=
  if 16 ≤ rhs.toNat then 0 else BitVec.ofNat 16 (lhs.toNat * 2 ^ rhs.toNat)

/-- SHRU: zero fill, 0 from an amount of 16 on (R632). -/
def shruValue (lhs rhs : Word) : Word :=
  if 16 ≤ rhs.toNat then 0 else BitVec.ofNat 16 (lhs.toNat / 2 ^ rhs.toNat)

/-- SHRS: sign fill, all sign bits from an amount of 16 on (R634). -/
def shrsValue (lhs rhs : Word) : Word :=
  if 16 ≤ rhs.toNat then (if lhs.getLsbD 15 then 0xFFFF else 0)
  else u16 (Int.fdiv (s16 lhs) (2 ^ rhs.toNat))

end Sys2Proof.Machine
end

