-- ==== Sys2Proof/Machine/ExpRoot.lean ====
section
/-! DEFINITION. EXPS and ROOT (spec/44_binary.md R640, R642): `clamp(round(y))` where `y` is the binary64 value of
`pow(a, b)` or `pow(a, 1 / b)`. With integer operands of 16 bits the value of `y` decides the result except in the
halfway and NaN cases, so `y` is kept as what rounding and clamping can see of it (log entries 7, 8 and 9). -/

namespace Sys2Proof.Machine

/-- What rounding to an integer and clamping can see of the binary64 value `y`. -/
inductive PowValue where
  /-- `y` rounds to this integer under every rounding to nearest. -/
  | near (v : Int)
  /-- `y` is an infinity, negative when `neg`. -/
  | inf (neg : Bool)
  /-- `y` is 0.5, or -0.5 when `neg`: the configuration's halfway rule decides (93_implementation_defined.md I5). -/
  | half (neg : Bool)
  /-- `y` is 0.5 or a binary64 neighbour of it: 0 or 1, left free. -/
  | nearHalf
  /-- `y` is NaN, or left to `root_fn` (I4, I6): any value. -/
  | any
  deriving DecidableEq, Repr

/-- `clamp` into [-32768, 32767] (R640). -/
def clamp16 (v : Int) : Int := max (-32768) (min v 32767)

/-- `|a| ^ n` as far as clamping can see it: from the sixteenth power on every base of size 2 or more is beyond the
bounds. -/
def powMagnitude (a : Int) (n : Nat) : Nat := a.natAbs ^ min n 16

/-- `m` with the sign of `a ^ n`: minus for a negative base and an odd exponent. -/
def withPowSign (a : Int) (n m : Nat) : Int := if a < 0 ∧ n % 2 = 1 then -(m : Int) else m

/-- `pow(a, b)` for integers (R640). `pow(a, 0)` is 1; 0 to a negative power is +infinity (K2). -/
def expsPow (a b : Int) : PowValue :=
  if 0 ≤ b then .near (withPowSign a b.toNat (powMagnitude a b.toNat))
  else if a = 0 then .inf false
  else if a.natAbs = 1 then .near (withPowSign a b.natAbs 1)
  else if a.natAbs = 2 ∧ b = -1 then .half (decide (a < 0))
  else .near 0

/-- The largest `n ≤ fuel` with `(n - 1/2) ^ b < a`, at least 1 for `a ≥ 1`: the integer nearest to the b-th root. -/
def nearestRoot (a b : Nat) : Nat → Nat
  | 0 => 0
  | n + 1 => if (2 * n + 1) ^ b < a * 2 ^ b then n + 1 else nearestRoot a b n

/-- Whether `k` is a power of two, so that binary64 holds `1 / k` exactly (degrees up to 15 matter). -/
def isPow2 (k : Nat) : Bool := k = 1 || k = 2 || k = 4 || k = 8

/-- `pow(a, 1 / b)` for integers, `b ≠ 0` (R642). A negative radicand with a degree other than 1 and -1 is NaN or
left to `root_fn` (K3, I6). From degree 26 on, every root of a 16-bit radicand above 0 rounds to 1; from degree -16
on, every such reciprocal root does too. -/
def rootPow (a b : Int) : PowValue :=
  if b = 1 then .near a
  else if b = -1 then expsPow a (-1)
  else if a < 0 then .any
  else if a = 0 then (if 0 < b then .near 0 else .inf false)
  else if 0 < b then .near (nearestRoot a.toNat (min b.toNat 26) 182)
  else
    let bound := 2 ^ min b.natAbs 16
    if a < bound then .near 1
    else if a = bound then (if isPow2 b.natAbs then .half false else .nearHalf)
    else .near 0

/-- The word of a value, with `a`, `b` the operands and `n` the number of free values taken (R640, R642). -/
def PowValue.word (y : PowValue) (a b : Int) (n : Nat) : Word :=
  match y with
  | .near v => u16 (clamp16 v)
  | .inf neg => if neg then 0x8000 else 0x7FFF
  | .half neg => if Config.halfAway neg then (if neg then 0xFFFF else 1) else 0
  | .nearHalf => if Config.nearHalfUp a b then 1 else 0
  | .any => Config.freeWord n

/-- How many free values the result takes from the stream: one where any value is allowed. -/
def PowValue.draws (y : PowValue) : Nat :=
  match y with
  | .any => 1
  | .near _ | .inf _ | .half _ | .nearHalf => 0

/-- The value EXPS is about: left-hand operand the base, right-hand operand the exponent (R640). -/
def expsValue (lhs rhs : Word) : PowValue := expsPow (s16 lhs) (s16 rhs)

/-- The value ROOT is about: the rhs-th root of lhs; the zeroth root of anything is 1 (R642). -/
def rootValue (lhs rhs : Word) : PowValue :=
  if s16 rhs = 0 then .near 1 else rootPow (s16 lhs) (s16 rhs)

/-- An EXPS or ROOT that takes its result from `y`. -/
def State.powOp (s : State) (src dst : Reg) (y : Word → Word → PowValue) : Host.Outcome State Fault Refusal :=
  let lhs := s.cur.reg dst
  let rhs := s.cur.reg src
  { s with freeDraws := s.freeDraws + (y lhs rhs).draws }.retireReg dst
    ((y lhs rhs).word (s16 lhs) (s16 rhs) s.freeDraws)

end Sys2Proof.Machine
end

