-- ==== Sys2Proof/Machine/Binary.lean ====
section
/-! DEFINITION. Binary operations (spec/44_binary.md): `rs` names the right-hand operand, `rd` the left-hand operand and
the destination (R600). -/

namespace Sys2Proof.Machine

/-- `add rS, rD` (R601). -/
def execAdd (rs rd : Reg) (s : State) : Host.Outcome State Fault Refusal := s.binary rs rd addValue

/-- `sub rS, rD` (R603). -/
def execSub (rs rd : Reg) (s : State) : Host.Outcome State Fault Refusal := s.binary rs rd subValue

/-- `mul rS, rD` (R605). -/
def execMul (rs rd : Reg) (s : State) : Host.Outcome State Fault Refusal := s.binary rs rd mulValue

/-- `mulh rS, rD` (R607). -/
def execMulh (rs rd : Reg) (s : State) : Host.Outcome State Fault Refusal := s.binary rs rd mulhValue

/-- `divu rS, rD` (R610). -/
def execDivu (rs rd : Reg) (s : State) : Host.Outcome State Fault Refusal := s.binary rs rd divuValue

/-- `divs rS, rD` (R612). -/
def execDivs (rs rd : Reg) (s : State) : Host.Outcome State Fault Refusal := s.binary rs rd divsValue

/-- `modu rS, rD` (R614). -/
def execModu (rs rd : Reg) (s : State) : Host.Outcome State Fault Refusal := s.binary rs rd moduValue

/-- `mods rS, rD` (R616). -/
def execMods (rs rd : Reg) (s : State) : Host.Outcome State Fault Refusal := s.binary rs rd modsValue

/-- `and rS, rD` (R620). -/
def execAnd (rs rd : Reg) (s : State) : Host.Outcome State Fault Refusal := s.binary rs rd andValue

/-- `or rS, rD` (R622). -/
def execOr (rs rd : Reg) (s : State) : Host.Outcome State Fault Refusal := s.binary rs rd orValue

/-- `xor rS, rD` (R624). -/
def execXor (rs rd : Reg) (s : State) : Host.Outcome State Fault Refusal := s.binary rs rd xorValue

/-- `shl rS, rD` (R630). -/
def execShl (rs rd : Reg) (s : State) : Host.Outcome State Fault Refusal := s.binary rs rd shlValue

/-- `shru rS, rD` (R632). -/
def execShru (rs rd : Reg) (s : State) : Host.Outcome State Fault Refusal := s.binary rs rd shruValue

/-- `shrs rS, rD` (R634). -/
def execShrs (rs rd : Reg) (s : State) : Host.Outcome State Fault Refusal := s.binary rs rd shrsValue

/-- `exps rS, rD` (R640). -/
def execExps (rs rd : Reg) (s : State) : Host.Outcome State Fault Refusal := s.powOp rs rd expsValue

/-- `root rS, rD` (R642). -/
def execRoot (rs rd : Reg) (s : State) : Host.Outcome State Fault Refusal := s.powOp rs rd rootValue

end Sys2Proof.Machine
end

