-- ==== Sys2Proof/Machine/Flags.lean ====
section
/-! DEFINITION. The core has no flags register (spec/10_state.md R120); what stands here is the whole of its
comparison: the relation the four flag bits of CMP select (spec/45_compare.md R700 to R702). -/

namespace Sys2Proof.Machine

/-- The relation of `p` to `q` that the bits L, E and G select (R700, R702). -/
def relationHolds (l e g : Bool) (p q : Int) : Bool :=
  (l && decide (p < q)) || (e && decide (p = q)) || (g && decide (q < p))

/-- The readings CMP compares: signed when S is set, else unsigned (R700). -/
def compareReading (sg : Bool) (w : Word) : Int := if sg then s16 w else w.toNat

/-- The result of CMP: 1 when the selected relation holds of the readings, else 0 (R700, R701). -/
def compareResult (l e g sg : Bool) (a b : Word) : Word :=
  if relationHolds l e g (compareReading sg a) (compareReading sg b) then 1 else 0

end Sys2Proof.Machine
end

