-- ==== Sys2Proof/Machine/Compare.lean ====
section
/-! DEFINITION. Compare (spec/45_compare.md). -/

namespace Sys2Proof.Machine

/-- `cmp.<flags> rA, rB`: `x[a]` is the left-hand operand, the result overwrites the right-hand operand `x[b]`
(R700, R701). -/
def execCmp (l e g sg : Bool) (ra rb : Reg) (s : State) : Host.Outcome State Fault Refusal :=
  s.retireReg rb (compareResult l e g sg (s.cur.reg ra) (s.cur.reg rb))

end Sys2Proof.Machine
end

