-- ==== Sys2Proof/Machine/Control.lean ====
section
/-! DEFINITION. Control transfer (spec/46_control_transfer.md): `pc` in a target is the address of the instruction
itself (R750). -/

namespace Sys2Proof.Machine

/-- `b rR, dist`: taken when `x[r]` is not zero (R752). -/
def execB (r : Reg) (imm8 : BitVec 8) (s : State) : Host.Outcome State Fault Refusal :=
  s.retire s.cur (if s.cur.reg r ≠ 0 then target s.cur.pc (off8 imm8) else s.cur.nextPc) .continued

/-- `j dist` (R755). -/
def execJ (imm12 : BitVec 12) (s : State) : Host.Outcome State Fault Refusal :=
  s.retire s.cur (target s.cur.pc (off12 imm12)) .continued

/-- `jr rR, simm8` (R758). -/
def execJr (r : Reg) (imm8 : BitVec 8) (s : State) : Host.Outcome State Fault Refusal :=
  s.retire s.cur (s.cur.reg r + sext8 imm8) .continued

end Sys2Proof.Machine
end

