-- ==== Sys2Proof/Machine/Illegal.lean ====
section
/-! DEFINITION. The thirty-two rows of Illegal words (spec/40_system.md R400, R401): each takes IllegalInstruction, the
one fault of an instruction (spec/60_exceptions.md R820). The word's free bits play no part in the effect. -/

namespace Sys2Proof.Machine

/-- `ill.op0` (R400). -/
def execIllOp0 (_w : BitVec 12) (s : State) : Host.Outcome State Fault Refusal := s.takeIllegal

/-- `ill.op1` (R400). -/
def execIllOp1 (_w : BitVec 12) (s : State) : Host.Outcome State Fault Refusal := s.takeIllegal

/-- `ill.op2.3` (R400). -/
def execIllOp2_3 (_w : BitVec 8) (s : State) : Host.Outcome State Fault Refusal := s.takeIllegal

/-- `ill.op2.4` (R400). -/
def execIllOp2_4 (_w : BitVec 8) (s : State) : Host.Outcome State Fault Refusal := s.takeIllegal

/-- `ill.op2.5` (R400). -/
def execIllOp2_5 (_w : BitVec 8) (s : State) : Host.Outcome State Fault Refusal := s.takeIllegal

/-- `ill.op2.6` (R400). -/
def execIllOp2_6 (_w : BitVec 8) (s : State) : Host.Outcome State Fault Refusal := s.takeIllegal

/-- `ill.op2.7` (R400). -/
def execIllOp2_7 (_w : BitVec 8) (s : State) : Host.Outcome State Fault Refusal := s.takeIllegal

/-- `ill.op2.8` (R400). -/
def execIllOp2_8 (_w : BitVec 8) (s : State) : Host.Outcome State Fault Refusal := s.takeIllegal

/-- `ill.op2.9` (R400). -/
def execIllOp2_9 (_w : BitVec 8) (s : State) : Host.Outcome State Fault Refusal := s.takeIllegal

/-- `ill.op2.A` (R400). -/
def execIllOp2_A (_w : BitVec 8) (s : State) : Host.Outcome State Fault Refusal := s.takeIllegal

/-- `ill.op2.B` (R400). -/
def execIllOp2_B (_w : BitVec 8) (s : State) : Host.Outcome State Fault Refusal := s.takeIllegal

/-- `ill.op2.C` (R400). -/
def execIllOp2_C (_w : BitVec 8) (s : State) : Host.Outcome State Fault Refusal := s.takeIllegal

/-- `ill.op2.D` (R400). -/
def execIllOp2_D (_w : BitVec 8) (s : State) : Host.Outcome State Fault Refusal := s.takeIllegal

/-- `ill.op2.E` (R400). -/
def execIllOp2_E (_w : BitVec 8) (s : State) : Host.Outcome State Fault Refusal := s.takeIllegal

/-- `ill.op2.F` (R400). -/
def execIllOp2_F (_w : BitVec 8) (s : State) : Host.Outcome State Fault Refusal := s.takeIllegal

/-- `ill.op5.0` (R400). -/
def execIllOp5_0 (_w : BitVec 8) (s : State) : Host.Outcome State Fault Refusal := s.takeIllegal

/-- `ill.op5.1` (R400). -/
def execIllOp5_1 (_w : BitVec 8) (s : State) : Host.Outcome State Fault Refusal := s.takeIllegal

/-- `ill.op5.2` (R400). -/
def execIllOp5_2 (_w : BitVec 8) (s : State) : Host.Outcome State Fault Refusal := s.takeIllegal

/-- `ill.op5.3` (R400). -/
def execIllOp5_3 (_w : BitVec 8) (s : State) : Host.Outcome State Fault Refusal := s.takeIllegal

/-- `ill.op5.4` (R400). -/
def execIllOp5_4 (_w : BitVec 8) (s : State) : Host.Outcome State Fault Refusal := s.takeIllegal

/-- `ill.op5.5` (R400). -/
def execIllOp5_5 (_w : BitVec 8) (s : State) : Host.Outcome State Fault Refusal := s.takeIllegal

/-- `ill.op5.6` (R400). -/
def execIllOp5_6 (_w : BitVec 8) (s : State) : Host.Outcome State Fault Refusal := s.takeIllegal

/-- `ill.op5.7` (R400). -/
def execIllOp5_7 (_w : BitVec 8) (s : State) : Host.Outcome State Fault Refusal := s.takeIllegal

/-- `ill.op5.8` (R400). -/
def execIllOp5_8 (_w : BitVec 8) (s : State) : Host.Outcome State Fault Refusal := s.takeIllegal

/-- `ill.op5.9` (R400). -/
def execIllOp5_9 (_w : BitVec 8) (s : State) : Host.Outcome State Fault Refusal := s.takeIllegal

/-- `ill.op6.E` (R400). -/
def execIllOp6_E (_w : BitVec 8) (s : State) : Host.Outcome State Fault Refusal := s.takeIllegal

/-- `ill.op6.F` (R400). -/
def execIllOp6_F (_w : BitVec 8) (s : State) : Host.Outcome State Fault Refusal := s.takeIllegal

/-- `ill.op7` (R400). -/
def execIllOp7 (_w : BitVec 12) (s : State) : Host.Outcome State Fault Refusal := s.takeIllegal

/-- `ill.opC` (R400). -/
def execIllOpC (_w : BitVec 12) (s : State) : Host.Outcome State Fault Refusal := s.takeIllegal

/-- `ill.opD` (R400). -/
def execIllOpD (_w : BitVec 12) (s : State) : Host.Outcome State Fault Refusal := s.takeIllegal

/-- `ill.opE` (R400). -/
def execIllOpE (_w : BitVec 12) (s : State) : Host.Outcome State Fault Refusal := s.takeIllegal

/-- `ill.opF` (R400). -/
def execIllOpF (_w : BitVec 12) (s : State) : Host.Outcome State Fault Refusal := s.takeIllegal

end Sys2Proof.Machine
end

