-- ==== Sys2Proof/Machine/Immediate.lean ====
section
/-! DEFINITION. Immediate loads (spec/42_immediate.md). -/

namespace Sys2Proof.Machine

/-- `lb rR, imm8`: the whole register replaced by the sign-extended immediate (R500). -/
def execLb (r : Reg) (imm8 : BitVec 8) (s : State) : Host.Outcome State Fault Refusal :=
  s.retireReg r (sext8 imm8)

/-- `lhi rR, imm8`: the high byte replaced, the low byte kept (R505). -/
def execLhi (r : Reg) (imm8 : BitVec 8) (s : State) : Host.Outcome State Fault Refusal :=
  s.retireReg r (withHighByte imm8 (s.cur.reg r))

end Sys2Proof.Machine
end

