-- ==== Sys2Proof/Machine/MemoryAccess.lean ====
section
/-! DEFINITION. Loads and stores (spec/41_memory_access.md): the address is the whole of one register. -/

namespace Sys2Proof.Machine

/-- `sw *rA, rV`: `DMEM[x[a]] <- x[v]` (R450). -/
def execSw (ra rv : Reg) (s : State) : Host.Outcome State Fault Refusal :=
  s.retire (s.cur.writeData (s.cur.reg ra) (s.cur.reg rv)) s.cur.nextPc .continued

/-- `lw *rA, rD`: `x[d] <- DMEM[x[a]]` (R455). -/
def execLw (ra rd : Reg) (s : State) : Host.Outcome State Fault Refusal :=
  s.retireReg rd (s.cur.readData (s.cur.reg ra))

/-- `lwi *rA, rD`: `x[d] <- IMEM[x[a]]` (R460). -/
def execLwi (ra rd : Reg) (s : State) : Host.Outcome State Fault Refusal :=
  s.retireReg rd (s.cur.readInstr (s.cur.reg ra))

end Sys2Proof.Machine
end

