-- ==== Sys2Proof/Machine/System.lean ====
section
/-! DEFINITION. The system instructions `ret`, `cpuid`, `debug` and `time` (spec/40_system.md). -/

namespace Sys2Proof.Machine

/-- `ret`: SUSPENDED, the latch takes `x[0]`, the step yields it, and the instruction retires (R405). -/
def execRet (s : State) : Host.Outcome State Fault Refusal :=
  s.retire { s.cur with yieldLatch := s.cur.reg 0, status := .suspended } s.cur.nextPc (.yield (s.cur.reg 0))

/-- CPUID word 0: bit 15 a conforming VM, bit 14 EXP_ROOT_ENABLED (R412). -/
def cpuidWord (expRoot : Bool) : Word := if expRoot then 0xC000 else 0x8000

/-- `x[0] .. x[3]` written together. -/
def Vm.setRegs03 (c : Vm) (v0 v1 v2 v3 : Word) : Vm :=
  (((c.setReg 0 v0).setReg 1 v1).setReg 2 v2).setReg 3 v3

/-- `cpuid`: the CPUID word for selector 0, zero for any other, and `x[1] .. x[3]` zero (R410, R412). -/
def execCpuid (s : State) : Host.Outcome State Fault Refusal :=
  s.retire (s.cur.setRegs03 (if s.cur.reg 0 = 0 then cpuidWord s.expRootEnabled else 0) 0 0 0) s.cur.nextPc .continued

/-- `debug`: one DebugDump event with the state before the instruction retires, and nothing else but the retire
phase (R415, R416). -/
def execDebug (s : State) : Host.Outcome State Fault Refusal :=
  { s with events := s.events ++ [s.cur.snapshot] }.retire s.cur s.cur.nextPc .debugDump

/-- `time`: the counter before this instruction retires, most significant word in `x[0]` (R420). -/
def execTime (s : State) : Host.Outcome State Fault Refusal :=
  let c := s.cur.counter
  s.retire (s.cur.setRegs03 (c.extractLsb' 48 16) (c.extractLsb' 32 16) (c.extractLsb' 16 16) (c.extractLsb' 0 16))
    s.cur.nextPc .continued

end Sys2Proof.Machine
end

