-- ==== Sys2Proof/Machine/Unary.lean ====
section
/-! DEFINITION. Unary operations (spec/43_unary.md): the source is read before the destination is written. -/

namespace Sys2Proof.Machine

/-- `not rS, rD`: every bit inverted (R550). -/
def execNot (rs rd : Reg) (s : State) : Host.Outcome State Fault Refusal := s.unary rs rd notValue

/-- `popcnt rS, rD`: the number of set bits (R552). -/
def execPopcnt (rs rd : Reg) (s : State) : Host.Outcome State Fault Refusal := s.unary rs rd popcntValue

/-- `clz rS, rD`: leading zeros (R554). -/
def execClz (rs rd : Reg) (s : State) : Host.Outcome State Fault Refusal := s.unary rs rd clzValue

/-- `ctz rS, rD`: trailing zeros (R556). -/
def execCtz (rs rd : Reg) (s : State) : Host.Outcome State Fault Refusal := s.unary rs rd ctzValue

/-- `rnd rS, rD`: a draw of the RNG port in `[0, x[s]]`, one call of the port (R558, 60_exceptions.md R860). -/
def execRnd (rs rd : Reg) (s : State) : Host.Outcome State Fault Refusal :=
  { s with rngCalls := s.rngCalls + 1 }.retireReg rd (drawRng s.rngCalls (s.cur.reg rs))

/-- `mov rS, rD` (R560). -/
def execMov (rs rd : Reg) (s : State) : Host.Outcome State Fault Refusal := s.unary rs rd id

end Sys2Proof.Machine
end

