-- ==== Sys2Proof/Machine/Dispatch.lean ====
section
/-! DEFINITION. The execute phase: one meaning per instruction, acting on the core that is advancing
(spec/60_exceptions.md R804 to R807). -/

namespace Sys2Proof.Machine

def exec (i : Instr) (s : State) : Host.Outcome State Fault Refusal :=
  match i with
  | .ret => Sys2Proof.Machine.execRet s
  | .cpuid => Sys2Proof.Machine.execCpuid s
  | .debug => Sys2Proof.Machine.execDebug s
  | .time => Sys2Proof.Machine.execTime s
  | .sw ra rv => Sys2Proof.Machine.execSw ra rv s
  | .lw ra rd => Sys2Proof.Machine.execLw ra rd s
  | .lwi ra rd => Sys2Proof.Machine.execLwi ra rd s
  | .lb r imm8 => Sys2Proof.Machine.execLb r imm8 s
  | .lhi r imm8 => Sys2Proof.Machine.execLhi r imm8 s
  | .not rs rd => Sys2Proof.Machine.execNot rs rd s
  | .popcnt rs rd => Sys2Proof.Machine.execPopcnt rs rd s
  | .clz rs rd => Sys2Proof.Machine.execClz rs rd s
  | .ctz rs rd => Sys2Proof.Machine.execCtz rs rd s
  | .rnd rs rd => Sys2Proof.Machine.execRnd rs rd s
  | .mov rs rd => Sys2Proof.Machine.execMov rs rd s
  | .add rs rd => Sys2Proof.Machine.execAdd rs rd s
  | .sub rs rd => Sys2Proof.Machine.execSub rs rd s
  | .mul rs rd => Sys2Proof.Machine.execMul rs rd s
  | .mulh rs rd => Sys2Proof.Machine.execMulh rs rd s
  | .divu rs rd => Sys2Proof.Machine.execDivu rs rd s
  | .divs rs rd => Sys2Proof.Machine.execDivs rs rd s
  | .modu rs rd => Sys2Proof.Machine.execModu rs rd s
  | .mods rs rd => Sys2Proof.Machine.execMods rs rd s
  | .and rs rd => Sys2Proof.Machine.execAnd rs rd s
  | .or rs rd => Sys2Proof.Machine.execOr rs rd s
  | .xor rs rd => Sys2Proof.Machine.execXor rs rd s
  | .shl rs rd => Sys2Proof.Machine.execShl rs rd s
  | .shru rs rd => Sys2Proof.Machine.execShru rs rd s
  | .shrs rs rd => Sys2Proof.Machine.execShrs rs rd s
  | .exps rs rd => Sys2Proof.Machine.execExps rs rd s
  | .root rs rd => Sys2Proof.Machine.execRoot rs rd s
  | .cmp l e g sg ra rb => Sys2Proof.Machine.execCmp l e g sg ra rb s
  | .b r imm8 => Sys2Proof.Machine.execB r imm8 s
  | .j imm12 => Sys2Proof.Machine.execJ imm12 s
  | .jr r imm8 => Sys2Proof.Machine.execJr r imm8 s
  | .illOp0 w => Sys2Proof.Machine.execIllOp0 w s
  | .illOp1 w => Sys2Proof.Machine.execIllOp1 w s
  | .illOp2_3 w => Sys2Proof.Machine.execIllOp2_3 w s
  | .illOp2_4 w => Sys2Proof.Machine.execIllOp2_4 w s
  | .illOp2_5 w => Sys2Proof.Machine.execIllOp2_5 w s
  | .illOp2_6 w => Sys2Proof.Machine.execIllOp2_6 w s
  | .illOp2_7 w => Sys2Proof.Machine.execIllOp2_7 w s
  | .illOp2_8 w => Sys2Proof.Machine.execIllOp2_8 w s
  | .illOp2_9 w => Sys2Proof.Machine.execIllOp2_9 w s
  | .illOp2_A w => Sys2Proof.Machine.execIllOp2_A w s
  | .illOp2_B w => Sys2Proof.Machine.execIllOp2_B w s
  | .illOp2_C w => Sys2Proof.Machine.execIllOp2_C w s
  | .illOp2_D w => Sys2Proof.Machine.execIllOp2_D w s
  | .illOp2_E w => Sys2Proof.Machine.execIllOp2_E w s
  | .illOp2_F w => Sys2Proof.Machine.execIllOp2_F w s
  | .illOp5_0 w => Sys2Proof.Machine.execIllOp5_0 w s
  | .illOp5_1 w => Sys2Proof.Machine.execIllOp5_1 w s
  | .illOp5_2 w => Sys2Proof.Machine.execIllOp5_2 w s
  | .illOp5_3 w => Sys2Proof.Machine.execIllOp5_3 w s
  | .illOp5_4 w => Sys2Proof.Machine.execIllOp5_4 w s
  | .illOp5_5 w => Sys2Proof.Machine.execIllOp5_5 w s
  | .illOp5_6 w => Sys2Proof.Machine.execIllOp5_6 w s
  | .illOp5_7 w => Sys2Proof.Machine.execIllOp5_7 w s
  | .illOp5_8 w => Sys2Proof.Machine.execIllOp5_8 w s
  | .illOp5_9 w => Sys2Proof.Machine.execIllOp5_9 w s
  | .illOp6_E w => Sys2Proof.Machine.execIllOp6_E w s
  | .illOp6_F w => Sys2Proof.Machine.execIllOp6_F w s
  | .illOp7 w => Sys2Proof.Machine.execIllOp7 w s
  | .illOpC w => Sys2Proof.Machine.execIllOpC w s
  | .illOpD w => Sys2Proof.Machine.execIllOpD w s
  | .illOpE w => Sys2Proof.Machine.execIllOpE w s
  | .illOpF w => Sys2Proof.Machine.execIllOpF w s

end Sys2Proof.Machine
end

