-- ==== Sys2Proof/Machine/Cycle.lean ====
section
/-! DEFINITION. One step of the core that is advancing (spec/60_exceptions.md R801): the checks before the fetch in
their order of precedence (R812), fetch, decode and execute. -/

namespace Sys2Proof.Machine

/-- A function applied to the next state of an outcome, where there is one. -/
def andThen (o : Host.Outcome State Fault Refusal) (f : State → State) : Host.Outcome State Fault Refusal :=
  match o with
  | .next s => .next (f s)
  | .fault r => .fault r
  | .refused r => .refused r

/-- The instruction the next step executes (R802, 30_encoding.md R330). -/
def State.fetch (s : State) : Instr := decode s.expRootEnabled s.fetchWord

/-- Step (R801): a halted core reports IllegalInstruction again (R810), a suspended one its yield (R811), a core with
no budget TimeOut (R803), each with no other change; otherwise the fetched instruction executes. -/
def stepCore (s : State) : Host.Outcome State Fault Refusal :=
  match s.cur.status with
  | .haltedIllegal => .next (s.report .illegalInstruction)
  | .suspended => .next (s.report (.yield s.cur.yieldLatch))
  | .running => if s.cur.budget = 0 then .next (s.report .timeOut) else exec s.fetch s

end Sys2Proof.Machine
end

