-- ==== Sys2Proof/Machine/Transactions.lean ====
section
/-! DEFINITION. The block's interface as transactions (spec/10_state.md R150 to R157) and the run loop
(spec/60_exceptions.md R840): what a host or a coordinator does to the machine between steps (D38). -/

namespace Sys2Proof.Machine

/-! ### Creation (R150, R970, R1003, R1004) -/

/-- Create(image): a core in the creation state; an image longer than a segment is refused and no core is created
(20_memory.md R231, 70_reset_and_hazards.md R1000). -/
def createFromImage (image : List Byte) (budget : Count) : Host.Outcome Vm Fault Refusal :=
  if image.length ≤ segmentBytes then .next (Vm.created (Memory.ofImage image) budget)
  else .refused .imageTooLong

/-- The data preamble of a controlled VM: environment id and minor version (65_coordination.md R970). -/
def Vm.withPreamble (c : Vm) (env : Word) : Vm :=
  (c.writeData 0xFFFF env).writeData 0xFFFE (Config.minorVersion env)

/-- A directly run VM with a loaded instruction segment (R156). -/
def State.startDirect (expRoot : Bool) (imem : Memory) (budget : Count) : State :=
  State.fresh .direct expRoot (Vm.created imem budget) (Vm.created [] 0) []

/-- The start of a run of the TEST_DRIVER protocol; the testee's environment is 0x0003 (65_coordination.md R901,
R970). -/
def State.startTestDriver (expRoot : Bool) (driver testee : Memory) (budget : Count) : State :=
  State.fresh .testDriver expRoot (Vm.created driver budget) ((Vm.created testee 0).withPreamble 3) []

/-- The start of a run of the JUDGE protocol; the host supplies the players' environment id (R970, I11). -/
def State.startJudge (expRoot : Bool) (env : Word) (judge : Memory) (players : List Memory) (budget : Count) : State :=
  State.fresh .judge expRoot (Vm.created judge budget) (Vm.created [] 0)
    (players.map fun m => (Vm.created m 0).withPreamble env)

/-! ### Access transactions (R154) -/

/-- ReadReg. -/
def State.readReg (s : State) (a : Agent) (r : Reg) : Word := (s.vm a).reg r

/-- ReadPc. -/
def State.readPc (s : State) (a : Agent) : Word := (s.vm a).pc

/-- ReadData. -/
def State.readData (s : State) (a : Agent) (addr : Word) : Word := (s.vm a).readData addr

/-- ReadInstr. -/
def State.readInstr (s : State) (a : Agent) (addr : Word) : Word := (s.vm a).readInstr addr

/-- ReadBudget. -/
def State.readBudget (s : State) (a : Agent) : Count := (s.vm a).budget

/-- ReadStatus. -/
def State.readStatus (s : State) (a : Agent) : Status := (s.vm a).status

/-- A writing transaction on its core (R154, ZeroState in 65_coordination.md R937). -/
def State.access (s : State) : Access → State
  | .writeReg a r v => s.setVm a ((s.vm a).setReg r v)
  | .writePc a v => s.setVm a { s.vm a with pc := v }
  | .writeData a addr v => s.setVm a ((s.vm a).writeData addr v)
  | .writeBudget a n => s.setVm a { s.vm a with budget := n }
  | .zeroState a => s.setVm a (s.vm a).zeroState

/-- Writing transactions one after the other. -/
def State.accessAll (s : State) (l : List Access) : State := l.foldl State.access s

/-! ### Resume and Run (R152, R153) -/

/-- Resume of the core that is advancing (R152). -/
def State.resume (s : State) : State := s.setCur s.cur.resume

/-- The outcome of a run that a step's result ends, if it ends it (60_exceptions.md R840). -/
def StepResult.outcome : StepResult → Option RunOutcome
  | .continued => none
  | .debugDump => none
  | .yield v => some (.yielded v)
  | .illegalInstruction => some .illegalInstruction
  | .timeOut => some .timeOut

/-- The outcome the last step's result ends a run with, if it ends it. -/
def State.ending (s : State) : Option RunOutcome := s.result.bind StepResult.outcome

/-- The loop of R840: `fuel` iterations at most, `limit` steps still allowed by the caller. With a fuel above the
core's budget the fuel never decides (R844). -/
def runLoop : Nat → Option Nat → State → RunOutcome × State
  | 0, _, s => (.timeOut, s)
  | fuel + 1, limit, s =>
    if s.cur.status = .haltedIllegal then (.illegalInstruction, s.report .illegalInstruction)
    else if limit = some 0 then (.timeOut, s)
    else
      match stepCore s with
      | .fault _ => (.timeOut, s)
      | .refused _ => (.timeOut, s)
      | .next t =>
        match t.ending with
        | some o => (o, t)
        | none => runLoop fuel (limit.map fun n => n - 1) t

/-- Run(max_steps): Resume, then the loop (R840). Log entry 17. -/
def State.run (s : State) (maxSteps : Option Nat) : RunOutcome × State :=
  runLoop (s.cur.budget.toNat + 1) maxSteps s.resume

end Sys2Proof.Machine
end

