-- ==== Sys2Proof/Machine/Coordinator.lean ====
section
/-! DEFINITION. The inter-VM coordinator (spec/65_coordination.md): the nine requests of the test-driver protocol, and
what the end of a core's run does. The judge's turn is in Judge.lean. -/

namespace Sys2Proof.Machine

/-! ### Outcomes (R912, 60_exceptions.md R824) -/

/-- FINISHED(o) (R910). -/
def State.finish (s : State) (o : CoordOutcome) : State := { s with cstate := .finished o }

/-- A fatal driver error (R912). -/
def State.driverError (s : State) (e : DriverError) : State := s.finish (.driverError e)

/-- The outcome code of a controlled core's run (60_exceptions.md R824). -/
def outcomeCode : RunOutcome → Word
  | .yielded _ => 0x0000
  | .timeOut => 0x0001
  | .illegalInstruction => 0xFFFF

/-- The driver's registers after a controlled run: the code in `x[0]`, and on a yield the value in `x[1]` (R931). -/
def Vm.tellOutcome (c : Vm) (o : RunOutcome) : Vm :=
  match o with
  | .yielded v => (c.setReg 0 (outcomeCode o)).setReg 1 v
  | .timeOut | .illegalInstruction => c.setReg 0 (outcomeCode o)

/-- The end of a run of the driver or judge (R910): a yield is dispatched, anything else ends the coordinated run. -/
def State.endDriver (s : State) (o : RunOutcome) : State :=
  match o with
  | .yielded _ => { s with cstate := .dispatch }
  | .illegalInstruction => s.finish .driverIllegal
  | .timeOut => s.finish .driverTimeOut

/-! ### Request 1, execute testee (R931) -/

/-- The testee's allowance: the driver's budget, clamped by the limit where there is one (R931). -/
def State.testeeAllowance (s : State) : Count :=
  match s.testeeLimit with
  | none => s.main.budget
  | some n => BitVec.ofNat 64 (min n.toNat s.main.budget.toNat)

/-- The allowance is loaded and the testee's run begins (R931). -/
def State.beginTestee (s : State) : State :=
  { s with testee := { s.testee with budget := s.testeeAllowance }, cstate := .runTestee s.testeeAllowance }

/-- The testee's run has ended: the driver pays the steps it retired and is told the outcome (R931). -/
def State.endTestee (s : State) (allow : Count) (o : RunOutcome) : State :=
  { s with
    main := ({ s.main with budget := s.main.budget - (allow - s.testee.budget) } : Vm).tellOutcome o
    cstate := .runDriver }

/-! ### Requests 2 to 9 (R932 to R939) -/

/-- Request 2, done: the magic pair after the first N words, or a fatal error (R932). -/
def State.requestDone (s : State) : State :=
  let n := s.main.reg 1
  if s.main.readData n = 0x650D ∧ s.main.readData (n + 1) = 0x4585 then
    s.finish (.done n ((wrapRange 0 n.toNat).map s.main.readData))
  else s.driverError .badMagic

/-- The testee's registers after request 3: bit i of the mask selects register i (R933). -/
def transferRegs (mask off : Word) (driver testee : Vm) : Vector Word 16 :=
  Vector.ofFn fun i : Fin 16 =>
    if mask.getLsbD i then driver.readData (off + BitVec.ofNat 16 i) else testee.x[i]

/-- A core's sixteen registers written to sixteen words of a segment from `off` on, wrapping (R933, R953). -/
def Memory.writeRegs (m : Memory) (off : Word) (x : Vector Word 16) : Memory :=
  m.writeWords ((wrapRange off 16).zip x.toList)

/-- Request 3, register transfer (R933). -/
def State.requestRegs (s : State) : State :=
  let off := s.main.reg 2
  let x := transferRegs (s.main.reg 1) off s.main s.testee
  { s with
    testee := { s.testee with x := x }
    main := { s.main with dmem := s.main.dmem.writeRegs off x } }

/-- Request 4, write testee data (R934). -/
def State.requestWriteData (s : State) : State :=
  { s with testee := { s.testee with
      dmem := s.testee.dmem.copy (s.main.reg 1) s.main.dmem (s.main.reg 2) (s.main.reg 3).toNat } }

/-- Request 5, read testee data (R935). -/
def State.requestReadData (s : State) : State :=
  { s with main := { s.main with
      dmem := s.main.dmem.copy (s.main.reg 1) s.testee.dmem (s.main.reg 2) (s.main.reg 3).toNat } }

/-- Request 6, read testee instructions (R936). -/
def State.requestReadInstr (s : State) : State :=
  { s with main := { s.main with
      dmem := s.main.dmem.copy (s.main.reg 1) s.testee.imem (s.main.reg 2) (s.main.reg 3).toNat } }

/-- Request 7, reset testee (R937). -/
def State.requestReset (s : State) : State := { s with testee := s.testee.zeroState }

/-- The 48-bit limit of request 8, most significant word in `x[1]` (R938). -/
def Vm.limitOperand (c : Vm) : BitVec 48 := c.reg 1 ++ c.reg 2 ++ c.reg 3

/-- Request 9, set testee PC (R939). -/
def State.requestSetPc (s : State) : State := { s with testee := { s.testee with pc := s.main.reg 1 } }

/-- The driver is next (R910). -/
def State.toDriver (s : State) : State := { s with cstate := .runDriver }

/-- Request 8, set testee time-limit; zero is fatal (R938). -/
def State.requestLimit (s : State) : State :=
  if s.main.limitOperand = 0 then s.driverError .zeroLimit
  else { s with testeeLimit := some s.main.limitOperand }.toDriver

/-- DISPATCH of a test driver: the budget check (R921), then the request `x[0]` selects (R910, R920). -/
def State.dispatchRequest (s : State) : State :=
  if s.main.budget = 0 then s.finish .driverTimeOut
  else
    match (s.main.reg 0).toNat with
    | 1 => s.beginTestee
    | 2 => s.requestDone
    | 3 => s.requestRegs.toDriver
    | 4 => s.requestWriteData.toDriver
    | 5 => s.requestReadData.toDriver
    | 6 => s.requestReadInstr.toDriver
    | 7 => s.requestReset.toDriver
    | 8 => s.requestLimit
    | 9 => s.requestSetPc.toDriver
    | _ => s.driverError (.unknownRequest (s.main.reg 0))

end Sys2Proof.Machine
end

