-- ==== Sys2Proof/Machine/Judge.lean ====
section
/-! DEFINITION. The judge protocol (spec/65_coordination.md section 5): the descriptor table in the judge's data
segment, a player turn, and the judgment. -/

namespace Sys2Proof.Machine

/-! ### The descriptor table (R950) -/

/-- One write or read descriptor (R950). -/
structure Descriptor where
  playerBegin : Word
  playerEnd : Word
  judgeBegin : Word
  judgeEnd : Word
  deriving DecidableEq, Repr

/-- The descriptor whose four words begin at `a` (R950). -/
def Memory.descriptor (m : Memory) (a : Word) : Descriptor where
  playerBegin := m.readWord a
  playerEnd := m.readWord (a + 1)
  judgeBegin := m.readWord (a + 2)
  judgeEnd := m.readWord (a + 3)

/-- `ps`, the number of words on the player's side (R951). -/
def Descriptor.playerSize (d : Descriptor) : Word := d.playerEnd - d.playerBegin

/-- `js`, the number of words on the judge's side (R951). -/
def Descriptor.judgeSize (d : Descriptor) : Word := d.judgeEnd - d.judgeBegin

/-- Equal sizes in (0, 0x7FFF] (R951). -/
def Descriptor.valid (d : Descriptor) : Bool :=
  d.playerSize == d.judgeSize && d.playerSize != 0 && decide (d.playerSize.toNat ≤ 0x7FFF)

/-- The allotted time T, word 0 most significant (R950). -/
def Memory.allottedTime (m : Memory) : Count := m.readWord 0 ++ m.readWord 1 ++ m.readWord 2 ++ m.readWord 3

/-- The register write-back address A (R950). -/
def Memory.writeBackAddr (m : Memory) : Word := m.readWord 4

/-- NW, the number of write descriptors (R950). -/
def Memory.writeCount (m : Memory) : Word := m.readWord 5

/-- NR, the number of read descriptors (R950). -/
def Memory.readCount (m : Memory) : Word := m.readWord 6

/-- R, the operand of JUDGE_R (R950). -/
def Memory.judgeOperand (m : Memory) : Word := m.readWord 7

/-- `n` descriptors of four words from word `start` on, offsets wrapping (R950). -/
def Memory.descriptors (m : Memory) (start : Word) (n : Nat) : List Descriptor :=
  (List.range n).map fun i => m.descriptor (start + BitVec.ofNat 16 (4 * i))

/-- The write descriptors (R950). -/
def Memory.writeDescriptors (m : Memory) : List Descriptor := m.descriptors 8 m.writeCount.toNat

/-- The read descriptors, after the write descriptors (R950). -/
def Memory.readDescriptors (m : Memory) : List Descriptor :=
  m.descriptors (8 + 4 * m.writeCount) m.readCount.toNat

/-! ### A player turn (R953) -/

/-- The write descriptors applied, in order: judge data to player data (R953). -/
def scatter (judge player : Memory) : List Descriptor → Memory
  | [] => player
  | d :: rest => scatter judge (player.copy d.playerBegin judge d.judgeBegin d.playerSize.toNat) rest

/-- The read descriptors applied, in order: player data to judge data (R953). -/
def gather (player judge : Memory) : List Descriptor → Memory
  | [] => judge
  | d :: rest => gather player (judge.copy d.judgeBegin player d.playerBegin d.playerSize.toNat) rest

/-- The player's allowance, `min(T, judge.budget)` (R953). -/
def State.playerAllowance (s : State) : Count :=
  BitVec.ofNat 64 (min s.main.dmem.allottedTime.toNat s.main.budget.toNat)

/-- Player p as its run begins: the write descriptors applied and the allowance loaded (R953). -/
def State.loadedPlayer (s : State) (p : Nat) : Vm :=
  { s.vm (.player p) with
    dmem := scatter s.main.dmem (s.vm (.player p)).dmem s.main.dmem.writeDescriptors
    budget := s.playerAllowance }

/-- The first half of a turn: every descriptor checked before any is applied (R951), the time checked, then the
player loaded (R953). -/
def State.beginTurn (s : State) (p : Nat) : State :=
  if (s.main.dmem.writeDescriptors ++ s.main.dmem.readDescriptors).all Descriptor.valid then
    if s.main.dmem.allottedTime = 0 then s.driverError .zeroAllotment
    else { s.setVm (.player p) (s.loadedPlayer p) with cstate := .runPlayer p s.playerAllowance }
  else s.driverError .badDescriptor

/-- The judge's data segment after a turn of `player`: the read descriptors applied, then the player's registers
written to A on. The table is read once, before the first of these writes (log entry 11). -/
def judgeDataAfter (judge : Memory) (player : Vm) : Memory :=
  (gather player.dmem judge judge.readDescriptors).writeRegs judge.writeBackAddr player.x

/-- The judge has paid the steps the player retired and holds the player's data and registers, and is next (R953). -/
def State.payTurn (s : State) (p : Nat) (allow : Count) : State :=
  { s with
    main := { s.main with
      budget := s.main.budget - (allow - (s.vm (.player p)).budget)
      dmem := judgeDataAfter s.main.dmem (s.vm (.player p)) }
    cstate := .runDriver
    freeDraws := s.freeDraws + 1 }

/-- The second half of a turn where JUDGE_R performs `effect`: the judge pays and receives the player's data and
registers, JUDGE_R is applied, and the judge is told the outcome (R953). -/
def State.endTurnWith (s : State) (p : Nat) (allow : Count) (o : RunOutcome) (effect : List Access) : State :=
  let applied := (s.payTurn p allow).accessAll effect
  { applied with main := applied.main.tellOutcome o }

/-- The second half of a turn (R953), JUDGE_R being the configuration's (log entry 10). -/
def State.endTurn (s : State) (p : Nat) (allow : Count) (o : RunOutcome) : State :=
  s.endTurnWith p allow o (Config.judgeR s.main.dmem.judgeOperand s.freeDraws)

/-- The first PLAYER_COUNT words of the judge's data, signed (R952). -/
def State.scores (s : State) : List Int :=
  (wrapRange 0 s.players.length).map fun a => s16 (s.main.readData a)

/-- DISPATCH of a judge: the budget check, the judgment, a player turn, or a bad index (R952). -/
def State.dispatchJudge (s : State) : State :=
  if s.main.budget = 0 then s.finish .driverTimeOut
  else if s.main.reg 0 = 0xFFFF then s.finish (.judgment s.scores)
  else if (s.main.reg 0).toNat < s.players.length then s.beginTurn (s.main.reg 0).toNat
  else s.driverError .badPlayer

/-! ### The coordinator's step (R910) -/

/-- What a step's result does to the run in progress: nothing while it goes on, else the end of that run. -/
def State.settle (s : State) : State :=
  match s.ending with
  | none => s
  | some o =>
    match s.cstate with
    | .runDriver => s.endDriver o
    | .runTestee allow => s.endTestee allow o
    | .runPlayer p allow => s.endTurn p allow o
    | .dispatch => s
    | .finished _ => s

/-- DISPATCH of the machine's protocol. -/
def State.dispatch (s : State) : State :=
  match s.protocol with
  | .judge => s.dispatchJudge
  | .testDriver => s.dispatchRequest
  | .direct => s

/-- One step of a coordinated run: one step of the core whose turn it is, resumed first (R911, R931), one dispatch,
or nothing more (R913). Log entry 14. -/
def coordinate (s : State) : Host.Outcome State Fault Refusal :=
  match s.cstate with
  | .dispatch => .next s.dispatch
  | .finished _ => .next s
  | .runDriver => andThen (stepCore s.resume) State.settle
  | .runTestee _ => andThen (stepCore s.resume) State.settle
  | .runPlayer _ _ => andThen (stepCore s.resume) State.settle

end Sys2Proof.Machine
end

