-- ==== Sys2Proof/Machine/Step.lean ====
section
/-! DEFINITION. One step of the machine: of the directly run VM (spec/60_exceptions.md R801), or of the coordinator
(spec/65_coordination.md R910). -/

namespace Sys2Proof.Machine

/-- One step of the machine. -/
def step (s : State) : Host.Outcome State Fault Refusal :=
  match s.protocol with
  | .direct => stepCore s
  | .testDriver => coordinate s
  | .judge => coordinate s

/-- The state in which the next step fetches and runs the instruction whose bits are `w`: some core is advancing, it
is RUNNING with budget left (R801), and the word stands at its pc. The one place IMEM changes; it stands for the load
of a program (log entry 3). -/
def State.withFetchWord (s : State) (nbits w : Nat) : State :=
  let t : State :=
    match s.cstate with
    | .dispatch => s.toDriver
    | .finished _ => s.toDriver
    | .runDriver => s
    | .runTestee _ => s
    | .runPlayer _ _ => s
  t.setCur { t.cur with
    imem := t.cur.imem.writeWord t.cur.pc (BitVec.ofNat 16 (w % 2 ^ nbits))
    status := .running
    budget := if t.cur.budget = 0 then 1 else t.cur.budget }

end Sys2Proof.Machine
end

