-- ==== Sys2Proof/Safety.lean ====
section
/-! DEFINITION. What counts as a sound state of the machine, and the terms in which claims say what a step leaves
unchanged (spec/60_exceptions.md R804 to R806, spec/20_memory.md R204). -/

namespace Sys2Proof.Machine

/-! ### Sound states -/

/-- Both segments of a core are in canonical form. -/
def Vm.wf (c : Vm) : Bool := c.imem.wf && c.dmem.wf

/-- The control state fits the protocol, and a controlled run in progress has used no more than its allowance, which
was no more than the driver's budget (65_coordination.md R931, R953). -/
def State.controlOk (s : State) : Bool :=
  match s.protocol, s.cstate with
  | .direct, .runDriver => true
  | .direct, _ => false
  | .testDriver, .runTestee allow =>
    decide (s.testee.budget.toNat ≤ allow.toNat) && decide (allow.toNat ≤ s.main.budget.toNat)
  | .testDriver, .runPlayer _ _ => false
  | .testDriver, _ => true
  | .judge, .runPlayer p allow =>
    decide (p < s.players.length) && decide ((s.vm (.player p)).budget.toNat ≤ allow.toNat) &&
      decide (allow.toNat ≤ s.main.budget.toNat)
  | .judge, .runTestee _ => false
  | .judge, _ => true

/-- The invariant of the machine: every segment in canonical form, no zero limit (10_state.md R142), and a control
state that fits. -/
def State.Inv (s : State) : Prop :=
  s.main.wf = true ∧ s.testee.wf = true ∧ (∀ c ∈ s.players, c.wf = true) ∧ s.testeeLimit ≠ some 0 ∧
    s.controlOk = true

/-- What the driver's budget and the counters of driver and testee come to: the instructions still to be retired and
those retired, the testee's in progress not paid yet (65_coordination.md R940). -/
def State.ledger (s : State) : Count :=
  let total := s.main.budget + s.main.counter + s.testee.counter
  match s.cstate with
  | .runTestee allow => total - (allow - s.testee.budget)
  | .runDriver | .dispatch | .runPlayer _ _ | .finished _ => total

/-! ### Bytes and words unchanged -/

/-- Every byte of a segment reads as before. -/
def Memory.Same (before after : Memory) : Prop := ∀ a : Nat, after.readByte a = before.readByte a

/-- Every byte but the two of word `w` reads as before (20_memory.md R221). -/
def Memory.SameBut (before after : Memory) (w : Word) : Prop :=
  ∀ a : Nat, a ≠ 2 * w.toNat → a ≠ 2 * w.toNat + 1 → after.readByte a = before.readByte a

/-- Every core but the executing one, the coordinator and the fixed data are as before (R204). -/
def State.OthersKept (s t : State) : Prop :=
  t.protocol = s.protocol ∧ t.expRootEnabled = s.expRootEnabled ∧ t.cstate = s.cstate ∧
    t.testeeLimit = s.testeeLimit ∧ t.players.length = s.players.length ∧
    (s.agent ≠ .testee → t.testee = s.testee) ∧
    (s.agent = .testee → t.main = s.main) ∧
    (∀ p, s.agent = .player p → p < s.players.length → t.main = s.main) ∧
    (∀ q, s.agent ≠ .player q → t.players[q]? = s.players[q]?)

/-! ### What an instruction leaves unchanged on the executing core -/

/-- No register but those in `ds` changes. -/
def State.RegsKeptBut (s t : State) (ds : List Reg) : Prop := ∀ r, r ∉ ds → t.cur.reg r = s.cur.reg r

/-- Every byte of both segments of the executing core is as before. -/
def State.MemoryKept (s t : State) : Prop := s.cur.imem.Same t.cur.imem ∧ s.cur.dmem.Same t.cur.dmem

/-- Run state and yield latch are as before. -/
def State.StatusKept (s t : State) : Prop :=
  t.cur.status = s.cur.status ∧ t.cur.yieldLatch = s.cur.yieldLatch

/-- No DebugDump event, no call of the RNG port, no other free value. -/
def State.PortsKept (s t : State) : Prop :=
  t.events = s.events ∧ t.rngCalls = s.rngCalls ∧ t.freeDraws = s.freeDraws

/-- The retire phase with next pc `next` and result `r` (R806), and nothing outside the executing core. -/
def State.Retired (s t : State) (next : Word) (r : StepResult) : Prop :=
  t.cur.pc = next ∧ t.cur.counter = s.cur.counter + 1 ∧ t.cur.budget = s.cur.budget - 1 ∧ t.result = some r ∧
    s.OthersKept t

/-! ### Whole shapes of instructions -/

/-- `i` answers a next state in which `x[d]` is `v`, and all else is the default retire phase: pc + 1, Continue. -/
def WritesReg (i : Instr) (s : State) (d : Reg) (v : Word) : Prop :=
  ∃ t, exec i s = .next t ∧ t.cur.reg d = v ∧ s.RegsKeptBut t [d] ∧ s.MemoryKept t ∧ s.StatusKept t ∧
    s.PortsKept t ∧ s.Retired t (s.cur.pc + 1) .continued

/-- `i` answers a next state with next pc `next` and no write at all. -/
def JumpsTo (i : Instr) (s : State) (next : Word) : Prop :=
  ∃ t, exec i s = .next t ∧ s.RegsKeptBut t [] ∧ s.MemoryKept t ∧ s.StatusKept t ∧ s.PortsKept t ∧
    s.Retired t next .continued

/-- `i` answers a next state that takes IllegalInstruction: HALTED_ILLEGAL, no register, byte, pc, counter, budget or
latch changed (R820, 40_system.md R400, R401). -/
def HaltsIllegal (i : Instr) (s : State) : Prop :=
  ∃ t, exec i s = .next t ∧ t.cur.status = .haltedIllegal ∧ t.result = some .illegalInstruction ∧
    s.RegsKeptBut t [] ∧ s.MemoryKept t ∧ t.cur.pc = s.cur.pc ∧ t.cur.counter = s.cur.counter ∧
    t.cur.budget = s.cur.budget ∧ t.cur.yieldLatch = s.cur.yieldLatch ∧ s.PortsKept t ∧ s.OthersKept t

end Sys2Proof.Machine
end

