-- ==== Sys2Proof/Certificates/Slice0/Obligations.lean ====
section
/-! DEFINITION. The statements for the provers. Each says what a rule of spec/ says an instruction or the machine does;
the terms of frames and completions are those of Sys2Proof/Safety.lean. A value the spec leaves open is a free value,
and no statement rests on what it is. -/

namespace Sys2Proof.Claims

open Sys2Proof.Machine

/-- The word with high byte `h` and two register fields, as a number (30_encoding.md R302, format RR). -/
def rrTableWord (h : Nat) (a b : Reg) : Word := BitVec.ofNat 16 (h * 256 + a.toNat * 16 + b.toNat)

/-- The word with opcode `op`, a register and an 8-bit immediate, as a number (R302, format RI8). -/
def riTableWord (op : Nat) (r : Reg) (imm : BitVec 8) : Word :=
  BitVec.ofNat 16 (op * 4096 + r.toNat * 256 + imm.toNat)

/-- The word stands for `i` whatever EXP_ROOT_ENABLED is. -/
def Decodes (w : Word) (i : Instr) : Prop := ∀ e, decode e w = i

/-- The thirty-two Illegal instructions, one per `ill` row of the table, with free bits `p` or `q`. -/
def illegalForms (p : BitVec 12) (q : BitVec 8) : List Instr :=
  [.illOp0 p, .illOp1 p, .illOp2_3 q, .illOp2_4 q, .illOp2_5 q, .illOp2_6 q, .illOp2_7 q, .illOp2_8 q, .illOp2_9 q,
    .illOp2_A q, .illOp2_B q, .illOp2_C q, .illOp2_D q, .illOp2_E q, .illOp2_F q, .illOp5_0 q, .illOp5_1 q,
    .illOp5_2 q, .illOp5_3 q, .illOp5_4 q, .illOp5_5 q, .illOp5_6 q, .illOp5_7 q, .illOp5_8 q, .illOp5_9 q,
    .illOp6_E q, .illOp6_F q, .illOp7 p, .illOpC p, .illOpD p, .illOpE p, .illOpF p]

/-- A coordinated machine in which some core is about to step: the driver or judge, the testee, or a player. -/
def CoreTurn (s : State) : Prop :=
  s.protocol ≠ .direct ∧
    (s.cstate = .runDriver ∨ (∃ a, s.cstate = .runTestee a) ∨ (∃ p a, s.cstate = .runPlayer p a))

/-- A test driver's request `code` is about to be applied: the driver has budget left (65_coordination.md R921). -/
def Dispatches (s : State) (code : Word) : Prop :=
  s.protocol = .testDriver ∧ s.cstate = .dispatch ∧ s.main.budget ≠ 0 ∧ s.main.reg 0 = code

/-- A judge's yield is about to be dispatched with budget left (R952). -/
def JudgeDispatches (s : State) (p : Word) : Prop :=
  s.protocol = .judge ∧ s.cstate = .dispatch ∧ s.main.budget ≠ 0 ∧ s.main.reg 0 = p

/-- The word address `start + j`, wrapping (R925). -/
def wordAt (start : Word) (j : Nat) : Word := BitVec.ofNat 16 (start.toNat + j)

/-- The word address `a` is one of the `len` words from `start` on, wrapping (R925). -/
def Covers (start : Word) (len : Nat) (a : Word) : Prop := ∃ j, j < len ∧ a = wordAt start j

/-- The judge's data after a turn of `player`, for the table in the data before it (R950, R953): the player's registers
at A on; each word of a read descriptor the player's, where neither a later read descriptor nor the registers cover it;
and every word that none of these covers as before. -/
def JudgeGains (before after : Memory) (player : Vm) : Prop :=
  (∀ i : Fin 16, after.readWord (wordAt before.writeBackAddr i) = player.x[i]) ∧
  (∀ (i : Nat) (d : Descriptor), before.readDescriptors[i]? = some d → ∀ j, j < d.playerSize.toNat →
    (∀ i' d', i < i' → before.readDescriptors[i']? = some d' →
      ¬Covers d'.judgeBegin d'.playerSize.toNat (wordAt d.judgeBegin j)) →
    ¬Covers before.writeBackAddr 16 (wordAt d.judgeBegin j) →
    after.readWord (wordAt d.judgeBegin j) = player.readData (wordAt d.playerBegin j)) ∧
  ∀ a, ¬Covers before.writeBackAddr 16 a →
    (∀ d ∈ before.readDescriptors, ¬Covers d.judgeBegin d.playerSize.toNat a) → after.readWord a = before.readWord a

/-- `after` is `before` with `len` words from `dst` on taken from `src` at `srcA` on, and every other word kept
(R925). -/
def Copied (before after src : Memory) (dst srcA : Word) (len : Nat) : Prop :=
  (∀ j, j < len → after.readWord (wordAt dst j) = src.readWord (wordAt srcA j)) ∧
    ∀ a, (∀ j, j < len → a ≠ wordAt dst j) → after.readWord a = before.readWord a

/-- The driver is told outcome `o` of a controlled run: the code in `x[0]`, a yield's value in `x[1]`, and no other
register changed (R931, 60_exceptions.md R824). -/
def Told (before after : Vm) (o : RunOutcome) : Prop :=
  (∀ r, r ≠ 0 → r ≠ 1 → after.reg r = before.reg r) ∧
    match o with
    | .yielded v => after.reg 0 = 0x0000 ∧ after.reg 1 = v
    | .timeOut => after.reg 0 = 0x0001 ∧ after.reg 1 = before.reg 1
    | .illegalInstruction => after.reg 0 = 0xFFFF ∧ after.reg 1 = before.reg 1

/-- An instruction that may take a free value: register `d` written, all else the default retire phase, `n` free
values taken and no other port used. -/
def WritesOpenReg (i : Instr) (s t : State) (d : Reg) (n : Nat) : Prop :=
  exec i s = .next t ∧ s.RegsKeptBut t [d] ∧ s.MemoryKept t ∧ s.StatusKept t ∧ t.events = s.events ∧
    t.rngCalls = s.rngCalls ∧ t.freeDraws = s.freeDraws + n ∧ s.Retired t (s.cur.pc + 1) .continued

end Sys2Proof.Claims

open Sys2Proof Sys2Proof.Machine Sys2Proof.Claims

/-! ### Encoding (30_encoding.md) -/

/-- Decoding the word of any well-formed instruction gives it back, every operand at every value, with the option on
or off. -/
def Obligations.DecodeOfEncodeIsIdentity : Prop :=
  ∀ (e : Bool) (i : Instr), WellFormed e i = true → decode e (encode i) = i

/-- Every word decodes to a well-formed instruction whose word it is: the decoder is total and loses no bit. -/
def Obligations.EncodeOfDecodeIsIdentity : Prop :=
  ∀ (e : Bool) (w : Word), WellFormed e (decode e w) = true ∧ encode (decode e w) = w

/-- Words written out from the spec's encodings decode to the instructions they stand for (95_test_vectors.md). The word
0x5C12 of `clz` rests on the unary selectors, which R331 takes from general knowledge (log entry 13). -/
def Obligations.SpecWordsDecode : Prop :=
  Decodes 0x102A .ret ∧ Decodes 0x2031 (.sw 3 1) ∧ Decodes 0x2210 (.lwi 1 0) ∧ Decodes 0x3280 (.lb 2 0x80) ∧
    Decodes 0x4512 (.lhi 5 0x12) ∧ Decodes 0x5C12 (.clz 1 2) ∧ Decodes 0x6421 (.divu 2 1) ∧
    decode true 0x6E12 = .exps 1 2 ∧ decode false 0x6E12 = .illOp6_E 0x12 ∧
    Decodes 0x8912 (.cmp true false false true 1 2) ∧ Decodes 0x9380 (.b 3 0x80) ∧ Decodes 0xA005 (.j 5) ∧
    Decodes 0xB4FE (.jr 4 0xFE) ∧ Decodes 0x0000 (.illOp0 0) ∧ Decodes 0xFFFF (.illOpF 0xFFF) ∧
    Decodes 0x1029 (.illOp1 0x029)

/-! ### The step (60_exceptions.md sections 1 and 2) -/

/-- A step runs the decoded instruction. A directly run VM that is RUNNING with budget left: step is exec of the
instruction that the word at the pc decodes to. In a coordinated run: the core whose turn it is is resumed first, and
after exec the coordinator takes note of how its run goes on (`State.settle`). What that is for a driver or judge: a
yield gives DISPATCH, IllegalInstruction FINISHED(DriverIllegal), TimeOut FINISHED(DriverTimeOut), and after Continue or
DebugDump nothing more happens, whichever core ran. (That one step of the model is one core step of a coordinated run is
the model's choice, log entry 14. How a testee's or a player's run ends: ExecuteTesteeIsOneRun, PlayerTurnTellsJudge.) -/
def Obligations.StepRunsDecodedInstruction : Prop :=
  (∀ (s : State) (i : Instr), s.protocol = .direct → s.cur.status = .running → s.cur.budget ≠ 0 →
    decode s.expRootEnabled (s.cur.readInstr s.cur.pc) = i → step s = exec i s) ∧
  (∀ (s : State) (i : Instr), CoreTurn s → s.cur.status ≠ .haltedIllegal → s.cur.budget ≠ 0 →
    decode s.expRootEnabled (s.cur.readInstr s.cur.pc) = i →
    step s = andThen (exec i (s.setCur { s.cur with status := .running })) State.settle) ∧
  (∀ s u : State, CoreTurn s → stepCore s.resume = .next u →
    (u.result = some .continued ∨ u.result = some .debugDump → step s = .next u) ∧
    (s.cstate = .runDriver →
      (∀ v, u.result = some (.yield v) → step s = .next { u with cstate := .dispatch }) ∧
      (u.result = some .illegalInstruction → step s = .next { u with cstate := .finished .driverIllegal }) ∧
      (u.result = some .timeOut → step s = .next { u with cstate := .finished .driverTimeOut })))

/-- No step of the machine faults or is refused: from every state there is a next state. -/
def Obligations.EveryStepAnswersNext : Prop := ∀ s : State, ∃ t, step s = .next t

/-- A core that is HALTED_ILLEGAL reports IllegalInstruction however often it is stepped, and changes nothing. -/
def Obligations.HaltedCoreReportsIllegalAgain : Prop :=
  ∀ s : State, s.cur.status = .haltedIllegal →
    stepCore s = .next { s with result := some .illegalInstruction } ∧
    (s.protocol = .direct →
      ∀ k, Sys2Proof.core.run (k + 1) s = .next { s with result := some .illegalInstruction })

/-- A SUSPENDED core re-reports the value of its last `ret` however often it is stepped, and changes nothing. -/
def Obligations.SuspendedCoreYieldsAgain : Prop :=
  ∀ s : State, s.cur.status = .suspended →
    stepCore s = .next { s with result := some (.yield s.cur.yieldLatch) } ∧
    (s.protocol = .direct →
      ∀ k, Sys2Proof.core.run (k + 1) s = .next { s with result := some (.yield s.cur.yieldLatch) })

/-- The budget check of a RUNNING core: with budget 0 it reports TimeOut and changes nothing, and TimeOut is reported in
that case only. (A SUSPENDED or HALTED_ILLEGAL core with budget 0 reports its yield or IllegalInstruction: the
precedence of R801 and R812 is the spec's decision D18.) -/
def Obligations.TimeOutOnlyAtEmptyBudget : Prop :=
  (∀ s : State, s.cur.status = .running → s.cur.budget = 0 → stepCore s = .next { s with result := some .timeOut }) ∧
  (∀ s t : State, stepCore s = .next t → t.result = some .timeOut → s.cur.status = .running ∧ s.cur.budget = 0)

/-- The result of each instruction: `ret` yields x[0], `debug` dumps, an Illegal word is IllegalInstruction, every
other instruction continues. -/
def Obligations.ResultOfEachInstruction : Prop :=
  ∀ (i : Instr) (s : State), ∃ t, exec i s = .next t ∧
    t.result = some (if i = .ret then .yield (s.cur.reg 0) else if i = .debug then .debugDump
      else if i.isIllegal = true then .illegalInstruction else .continued)

/-- `ret` is the only instruction that yields, and a step of a RUNNING core that does not answer Continue is one of the
four suspension points. -/
def Obligations.SuspensionPoints : Prop :=
  (∀ (i : Instr) (s t : State) (v : Word), exec i s = .next t → t.result = some (.yield v) → i = .ret) ∧
  (∀ s t : State, s.cur.status = .running → stepCore s = .next t → t.result ≠ some .continued →
    s.fetch = .ret ∨ s.cur.budget = 0 ∨ s.fetch.isIllegal = true ∨ s.fetch = .debug)

/-- One step of a core counts exactly the instructions it retires: the counter goes up and the budget down by one when a
RUNNING core with budget left executes a legal instruction, and neither moves otherwise. -/
def Obligations.CounterCountsExactlyRetires : Prop :=
  ∀ s t : State, stepCore s = .next t →
    if s.cur.status = .running ∧ s.cur.budget ≠ 0 ∧ s.fetch.isIllegal = false then
      t.cur.counter = s.cur.counter + 1 ∧ t.cur.budget.toNat + 1 = s.cur.budget.toNat
    else t.cur.counter = s.cur.counter ∧ t.cur.budget = s.cur.budget

/-! ### System instructions (40_system.md) -/

/-- `ret`: the latch and the result take x[0], the core is SUSPENDED, no register or byte changes, and it retires. -/
def Obligations.RetSuspendsAndYields : Prop :=
  Decodes 0x102A .ret ∧
  ∀ s : State, ∃ t, exec .ret s = .next t ∧ t.cur.status = .suspended ∧ t.cur.yieldLatch = s.cur.reg 0 ∧
    s.RegsKeptBut t [] ∧ s.MemoryKept t ∧ s.PortsKept t ∧ s.Retired t (s.cur.pc + 1) (.yield (s.cur.reg 0))

/-- `cpuid`: word 0 has bit 15 set, bit 14 exactly when EXP_ROOT_ENABLED, no other bit; every other leaf is zero; x[1]
to x[3] are zero in both cases. -/
def Obligations.CpuidWord : Prop :=
  Decodes 0x102B .cpuid ∧
  ∀ s : State, ∃ t, exec .cpuid s = .next t ∧
    (s.cur.reg 0 = 0 → (t.cur.reg 0).getLsbD 15 = true ∧ (t.cur.reg 0).getLsbD 14 = s.expRootEnabled ∧
      ∀ i, i < 14 → (t.cur.reg 0).getLsbD i = false) ∧
    (s.cur.reg 0 ≠ 0 → t.cur.reg 0 = 0) ∧
    t.cur.reg 1 = 0 ∧ t.cur.reg 2 = 0 ∧ t.cur.reg 3 = 0 ∧ s.RegsKeptBut t [0, 1, 2, 3] ∧ s.MemoryKept t ∧
    s.StatusKept t ∧ s.PortsKept t ∧ s.Retired t (s.cur.pc + 1) .continued

/-- `debug`: exactly one event, carrying pc, registers and counter as they are before the instruction retires, and no
other change but the retire phase. -/
def Obligations.DebugEmitsOneEvent : Prop :=
  Decodes 0x102C .debug ∧
  ∀ s : State, ∃ t, exec .debug s = .next t ∧
    t.events = s.events ++ [{ pc := s.cur.pc, x := s.cur.x, counter := s.cur.counter }] ∧
    t.rngCalls = s.rngCalls ∧ t.freeDraws = s.freeDraws ∧ s.RegsKeptBut t [] ∧ s.MemoryKept t ∧ s.StatusKept t ∧
    s.Retired t (s.cur.pc + 1) .debugDump

/-- `time`: x[0] to x[3] hold the 64-bit counter as it was before this instruction, most significant word first.
A test vector of the spec disagrees at counter 2^48 + 5, and the model follows R420 (log entry 20). -/
def Obligations.TimeReadsCounter : Prop :=
  Decodes 0x102D .time ∧
  ∀ s : State, ∃ t, exec .time s = .next t ∧
    (t.cur.reg 0).toNat * 2 ^ 48 + (t.cur.reg 1).toNat * 2 ^ 32 + (t.cur.reg 2).toNat * 2 ^ 16 + (t.cur.reg 3).toNat =
      s.cur.counter.toNat ∧
    s.RegsKeptBut t [0, 1, 2, 3] ∧ s.MemoryKept t ∧ s.StatusKept t ∧ s.PortsKept t ∧
    s.Retired t (s.cur.pc + 1) .continued

/-- Each of the thirty-two Illegal rows halts the core and changes nothing else: no register, byte, pc, counter, budget or
latch. -/
def Obligations.IllegalWordsHalt : Prop :=
  ∀ (p : BitVec 12) (q : BitVec 8) (s : State), ∀ i ∈ illegalForms p q, HaltsIllegal i s

/-! ### Loads and stores (41_memory_access.md) -/

/-- `sw`: the word at address x[a] becomes x[v], high byte at the even byte address; every byte outside the two of that
word, every register and everything else is as before. The value clause needs the segment in canonical form, which
`StepKeepsInvariant` keeps. -/
def Obligations.StoreWritesOneWord : Prop :=
  ∀ (s : State) (ra rv : Reg), Decodes (rrTableWord 0x20 ra rv) (.sw ra rv) ∧
    ∃ t, exec (.sw ra rv) s = .next t ∧
      (s.cur.dmem.wf = true →
        t.cur.dmem.readByte (2 * (s.cur.reg ra).toNat) = (s.cur.reg rv).extractLsb' 8 8 ∧
        t.cur.dmem.readByte (2 * (s.cur.reg ra).toNat + 1) = (s.cur.reg rv).extractLsb' 0 8 ∧
        s.cur.dmem.SameBut t.cur.dmem (s.cur.reg ra)) ∧
      s.cur.imem.Same t.cur.imem ∧ s.RegsKeptBut t [] ∧ s.StatusKept t ∧ s.PortsKept t ∧
      s.Retired t (s.cur.pc + 1) .continued

/-- `lw` and `lwi`: x[d] becomes the word that the two bytes at word address x[a] of the data or the instruction
segment make, high byte first; nothing else is written, also when d = a. -/
def Obligations.LoadsReadOneWord : Prop :=
  ∀ (s : State) (ra rd : Reg),
    Decodes (rrTableWord 0x21 ra rd) (.lw ra rd) ∧ Decodes (rrTableWord 0x22 ra rd) (.lwi ra rd) ∧
    (∃ v, WritesReg (.lw ra rd) s rd v ∧
      v.toNat = 256 * (s.cur.dmem.readByte (2 * (s.cur.reg ra).toNat)).toNat +
        (s.cur.dmem.readByte (2 * (s.cur.reg ra).toNat + 1)).toNat) ∧
    (∃ v, WritesReg (.lwi ra rd) s rd v ∧
      v.toNat = 256 * (s.cur.imem.readByte (2 * (s.cur.reg ra).toNat)).toNat +
        (s.cur.imem.readByte (2 * (s.cur.reg ra).toNat + 1)).toNat)

/-- A load returns the most recent store to its address, and a load from any other address what was there. -/
def Obligations.LoadSeesLastStore : Prop :=
  ∀ (s t : State) (ra rv rb rd : Reg), s.cur.dmem.wf = true → exec (.sw ra rv) s = .next t →
    ∃ u, exec (.lw rb rd) t = .next u ∧
      u.cur.reg rd = if s.cur.reg rb = s.cur.reg ra then s.cur.reg rv else s.cur.readData (s.cur.reg rb)

/-! ### Immediates (42_immediate.md) -/

/-- `lb`: the whole register becomes the sign extension of the immediate. -/
def Obligations.LoadLowSignExtends : Prop :=
  ∀ (s : State) (r : Reg) (imm : BitVec 8), Decodes (riTableWord 0x3 r imm) (.lb r imm) ∧
    ∃ v, WritesReg (.lb r imm) s r v ∧
      v.toNat = if imm.toNat < 0x80 then imm.toNat else 0xFF00 + imm.toNat

/-- `lhi`: the high byte becomes the immediate, the low byte stays. -/
def Obligations.LoadHighKeepsLowByte : Prop :=
  ∀ (s : State) (r : Reg) (imm : BitVec 8), Decodes (riTableWord 0x4 r imm) (.lhi r imm) ∧
    ∃ v, WritesReg (.lhi r imm) s r v ∧ v.toNat = 256 * imm.toNat + (s.cur.reg r).toNat % 256

/-- The pair `lb rR, lo ; lhi rR, hi` loads the constant {hi, lo} in two retired steps from any pc, the pair wrapping
past the end of the segment too. -/
def Obligations.PairLoadsAnyConstant : Prop :=
  ∀ (s : State) (r : Reg) (lo hi : BitVec 8), s.protocol = .direct → s.cur.status = .running →
    2 ≤ s.cur.budget.toNat → s.cur.readInstr s.cur.pc = riTableWord 0x3 r lo →
    s.cur.readInstr (s.cur.pc + 1) = riTableWord 0x4 r hi →
    ∃ t, Sys2Proof.core.run 2 s = .next t ∧ (t.cur.reg r).toNat = 256 * hi.toNat + lo.toNat ∧
      t.cur.counter = s.cur.counter + 2 ∧ t.cur.pc = s.cur.pc + 2

/-! ### Unary operations (43_unary.md) -/

/-- `popcnt` is the number of set bits; `clz` and `ctz` count the clear bits above the highest and below the lowest set
bit, 16 when no bit is set. The selectors 0x5B, 0x5C and 0x5D are R331's, from general knowledge (log entry 13). -/
def Obligations.BitCounts : Prop :=
  ∀ (s : State) (rs rd : Reg),
    Decodes (rrTableWord 0x5B rs rd) (.popcnt rs rd) ∧ Decodes (rrTableWord 0x5C rs rd) (.clz rs rd) ∧
    Decodes (rrTableWord 0x5D rs rd) (.ctz rs rd) ∧
    (∃ v, WritesReg (.popcnt rs rd) s rd v ∧
      v.toNat = (Finset.univ.filter fun i : Fin 16 => (s.cur.reg rs).getLsbD i = true).card) ∧
    (∃ v, WritesReg (.clz rs rd) s rd v ∧ (s.cur.reg rs = 0 → v = 16) ∧
      ∀ n, n < 16 → (s.cur.reg rs).getLsbD n = true → (∀ m, n < m → m < 16 → (s.cur.reg rs).getLsbD m = false) →
        v.toNat = 15 - n) ∧
    (∃ v, WritesReg (.ctz rs rd) s rd v ∧ (s.cur.reg rs = 0 → v = 16) ∧
      ∀ n, n < 16 → (s.cur.reg rs).getLsbD n = true → (∀ m, m < n → (s.cur.reg rs).getLsbD m = false) →
        v.toNat = n)

/-- `rnd` writes the model's next draw, which is at most the bound, and calls the port exactly once. That the draw is
the port's answer reduced into the range, so that the bound holds whatever the port answers, is the model's choice (log
entry 5); the selector 0x5E is R331's, from general knowledge (log entry 13). -/
def Obligations.RndStaysWithinBound : Prop :=
  ∀ (s : State) (rs rd : Reg), Decodes (rrTableWord 0x5E rs rd) (.rnd rs rd) ∧
    ∃ t, exec (.rnd rs rd) s = .next t ∧ t.cur.reg rd = drawRng s.rngCalls (s.cur.reg rs) ∧
      (t.cur.reg rd).toNat ≤ (s.cur.reg rs).toNat ∧ t.rngCalls = s.rngCalls + 1 ∧ t.events = s.events ∧
      t.freeDraws = s.freeDraws ∧ s.RegsKeptBut t [rd] ∧ s.MemoryKept t ∧ s.StatusKept t ∧
      s.Retired t (s.cur.pc + 1) .continued

/-! ### Binary operations (44_binary.md): x[d] the left-hand operand and destination, x[s] the right-hand operand -/

/-- `add`, `sub` and `mul` are exact modulo 2^16, `mulh` is the high half of the unsigned product. -/
def Obligations.AddSubMulModulo : Prop :=
  ∀ (s : State) (rs rd : Reg),
    Decodes (rrTableWord 0x60 rs rd) (.add rs rd) ∧ Decodes (rrTableWord 0x61 rs rd) (.sub rs rd) ∧
    Decodes (rrTableWord 0x62 rs rd) (.mul rs rd) ∧ Decodes (rrTableWord 0x63 rs rd) (.mulh rs rd) ∧
    (∃ v, WritesReg (.add rs rd) s rd v ∧ v.toNat = ((s.cur.reg rd).toNat + (s.cur.reg rs).toNat) % 65536) ∧
    (∃ v, WritesReg (.sub rs rd) s rd v ∧
      v.toNat = ((s.cur.reg rd).toNat + 65536 - (s.cur.reg rs).toNat) % 65536) ∧
    (∃ v, WritesReg (.mul rs rd) s rd v ∧ v.toNat = ((s.cur.reg rd).toNat * (s.cur.reg rs).toNat) % 65536) ∧
    (∃ v, WritesReg (.mulh rs rd) s rd v ∧ v.toNat = ((s.cur.reg rd).toNat * (s.cur.reg rs).toNat) / 65536)

/-- `divu` and `modu`: the unsigned quotient and remainder, and the sentinels 0xFFFF and 0 for a zero divisor. -/
def Obligations.UnsignedDivision : Prop :=
  ∀ (s : State) (rs rd : Reg),
    Decodes (rrTableWord 0x64 rs rd) (.divu rs rd) ∧ Decodes (rrTableWord 0x66 rs rd) (.modu rs rd) ∧
    ∃ q r, WritesReg (.divu rs rd) s rd q ∧ WritesReg (.modu rs rd) s rd r ∧
      (s.cur.reg rs = 0 → q = 0xFFFF ∧ r = 0) ∧
      (s.cur.reg rs ≠ 0 → (s.cur.reg rd).toNat = (s.cur.reg rs).toNat * q.toNat + r.toNat ∧
        r.toNat < (s.cur.reg rs).toNat)

/-- `divs` and `mods`: the floor quotient and the remainder of the sign of the divisor, exact over the integers before
the quotient wraps (-32768 / -1), and the sentinels 0x7FFF and 0 for a zero divisor. -/
def Obligations.SignedFloorDivision : Prop :=
  ∀ (s : State) (rs rd : Reg),
    Decodes (rrTableWord 0x65 rs rd) (.divs rs rd) ∧ Decodes (rrTableWord 0x67 rs rd) (.mods rs rd) ∧
    ∃ v w, WritesReg (.divs rs rd) s rd v ∧ WritesReg (.mods rs rd) s rd w ∧
      (s.cur.reg rs = 0 → v = 0x7FFF ∧ w = 0) ∧
      (s.cur.reg rs ≠ 0 → ∃ q r : Int, v = BitVec.ofInt 16 q ∧ w.toInt = r ∧
        (s.cur.reg rd).toInt = (s.cur.reg rs).toInt * q + r ∧
        (0 ≤ r ∧ r < (s.cur.reg rs).toInt ∨ (s.cur.reg rs).toInt < r ∧ r ≤ 0))

/-- `not`, `and`, `or` and `xor`, bit by bit, and `mov`, which copies. The selectors 0x5A of `not` and 0x5F
of `mov` are R331's, from general knowledge (log entry 13). -/
def Obligations.BitwiseOperations : Prop :=
  ∀ (s : State) (rs rd : Reg),
    Decodes (rrTableWord 0x5A rs rd) (.not rs rd) ∧ Decodes (rrTableWord 0x5F rs rd) (.mov rs rd) ∧
    (∃ v, WritesReg (.not rs rd) s rd v ∧ ∀ i, i < 16 → v.getLsbD i = !(s.cur.reg rs).getLsbD i) ∧
    WritesReg (.mov rs rd) s rd (s.cur.reg rs) ∧
    Decodes (rrTableWord 0x68 rs rd) (.and rs rd) ∧ Decodes (rrTableWord 0x69 rs rd) (.or rs rd) ∧
    Decodes (rrTableWord 0x6A rs rd) (.xor rs rd) ∧
    (∃ v, WritesReg (.and rs rd) s rd v ∧
      ∀ i, i < 16 → v.getLsbD i = ((s.cur.reg rd).getLsbD i && (s.cur.reg rs).getLsbD i)) ∧
    (∃ v, WritesReg (.or rs rd) s rd v ∧
      ∀ i, i < 16 → v.getLsbD i = ((s.cur.reg rd).getLsbD i || (s.cur.reg rs).getLsbD i)) ∧
    (∃ v, WritesReg (.xor rs rd) s rd v ∧
      ∀ i, i < 16 → v.getLsbD i = ((s.cur.reg rd).getLsbD i ^^ (s.cur.reg rs).getLsbD i))

/-- `shl`, `shru` and `shrs` shift by the whole 16-bit amount: zeros, zeros and sign bits come in, and from 16 on
nothing else is left. -/
def Obligations.ShiftsByWholeAmount : Prop :=
  ∀ (s : State) (rs rd : Reg),
    Decodes (rrTableWord 0x6B rs rd) (.shl rs rd) ∧ Decodes (rrTableWord 0x6C rs rd) (.shru rs rd) ∧
    Decodes (rrTableWord 0x6D rs rd) (.shrs rs rd) ∧
    (∃ v, WritesReg (.shl rs rd) s rd v ∧ ∀ i, i < 16 →
      v.getLsbD i = (decide ((s.cur.reg rs).toNat ≤ i) && (s.cur.reg rd).getLsbD (i - (s.cur.reg rs).toNat))) ∧
    (∃ v, WritesReg (.shru rs rd) s rd v ∧ ∀ i, i < 16 →
      v.getLsbD i = (s.cur.reg rd).getLsbD (i + (s.cur.reg rs).toNat)) ∧
    (∃ v, WritesReg (.shrs rs rd) s rd v ∧ ∀ i, i < 16 →
      v.getLsbD i = if i + (s.cur.reg rs).toNat < 16 then (s.cur.reg rd).getLsbD (i + (s.cur.reg rs).toNat)
        else (s.cur.reg rd).getLsbD 15)

/-- `exps`, for base a and exponent b: the clamped integer power for b ≥ 0; for b < 0 the reciprocal rounded to nearest,
0 to a negative power being 32767, and only 1/2 and -1/2 left to the halfway rule. The model's reading of binary64 `pow`
on integers (log entries 7 and 8). -/
def Obligations.ExpsRoundsThePower : Prop :=
  ∀ (s : State) (rs rd : Reg), decode true (rrTableWord 0x6E rs rd) = .exps rs rd ∧
    ∃ t, WritesOpenReg (.exps rs rd) s t rd 0 ∧
      ∀ a b v : Int, a = (s.cur.reg rd).toInt → b = (s.cur.reg rs).toInt → v = (t.cur.reg rd).toInt →
        (0 ≤ b → v = max (-32768) (min (a ^ b.toNat) 32767)) ∧
        (b < 0 → a = 0 → v = 32767) ∧
        (b < 0 → a = 1 → v = 1) ∧
        (b < 0 → a = -1 → v = if b % 2 = 0 then 1 else -1) ∧
        (b < 0 → 3 ≤ a.natAbs → v = 0) ∧
        (b < -1 → a.natAbs = 2 → v = 0) ∧
        (b = -1 → a = 2 → v = 0 ∨ v = 1) ∧
        (b = -1 → a = -2 → v = 0 ∨ v = -1)

/-- `root`, for radicand a and degree b: degree 0 gives 1 and degree 1 gives a; a root of degree 2 or more of a > 0 is
rounded to the nearest integer; a negative degree gives the rounded reciprocal; a negative radicand with a degree other
than -1, 0 and 1 takes one free value, and nothing is said of it. The model's reading of binary64 `pow` (log entries 6
to 9). -/
def Obligations.RootRoundsTheRoot : Prop :=
  ∀ (s : State) (rs rd : Reg), decode true (rrTableWord 0x6F rs rd) = .root rs rd ∧
    ∀ a b : Int, a = (s.cur.reg rd).toInt → b = (s.cur.reg rs).toInt →
      ∃ t, WritesOpenReg (.root rs rd) s t rd (if a < 0 ∧ 2 ≤ b.natAbs then 1 else 0) ∧
        ∀ v : Int, v = (t.cur.reg rd).toInt →
          (b = 0 → v = 1) ∧
          (b = 1 → v = a) ∧
          (a = 0 → 0 < b → v = 0) ∧
          (a = 0 → b < 0 → v = 32767) ∧
          (0 < a → 2 ≤ b → (2 * v - 1) ^ b.toNat < a * 2 ^ b.toNat ∧ a * 2 ^ b.toNat < (2 * v + 1) ^ b.toNat ∧ 0 < v) ∧
          (0 < a → b < 0 → a < 2 ^ b.natAbs → v = 1) ∧
          (0 < a → b < 0 → a = 2 ^ b.natAbs → v = 0 ∨ v = 1) ∧
          (0 < a → b < 0 → 2 ^ b.natAbs < a → v = 0) ∧
          (b = -1 → a = -1 → v = -1) ∧
          (b = -1 → a = -2 → v = 0 ∨ v = -1) ∧
          (b = -1 → a < -2 → v = 0)

/-! ### Compare (45_compare.md) -/

/-- `cmp`: the right-hand operand register becomes 1 when one of the selected relations holds of the signed or unsigned
readings, else 0. -/
def Obligations.CompareSelectsRelation : Prop :=
  ∀ (s : State) (l e g sg : Bool) (ra rb : Reg),
    Decodes (BitVec.ofNat 16 (0x8000 + l.toNat * 2048 + e.toNat * 1024 + g.toNat * 512 + sg.toNat * 256 +
      ra.toNat * 16 + rb.toNat)) (.cmp l e g sg ra rb) ∧
    ∃ v, WritesReg (.cmp l e g sg ra rb) s rb v ∧
      ∀ p q : Int, (sg = true → p = (s.cur.reg ra).toInt ∧ q = (s.cur.reg rb).toInt) →
        (sg = false → p = (s.cur.reg ra).toNat ∧ q = (s.cur.reg rb).toNat) →
        ((l = true ∧ p < q ∨ e = true ∧ p = q ∨ g = true ∧ p > q) → v = 1) ∧
        (¬(l = true ∧ p < q ∨ e = true ∧ p = q ∨ g = true ∧ p > q) → v = 0)

/-! ### Control transfer (46_control_transfer.md) -/

/-- `b`: taken to pc + offset when the register is not zero, else to pc + 1, modulo 2^16; only the pc changes. -/
def Obligations.BranchWhenNonzero : Prop :=
  ∀ (s : State) (r : Reg) (imm : BitVec 8), Decodes (riTableWord 0x9 r imm) (.b r imm) ∧
    ∃ next, JumpsTo (.b r imm) s next ∧
      (s.cur.reg r = 0 → next.toNat = (s.cur.pc.toNat + 1) % 65536) ∧
      (s.cur.reg r ≠ 0 → (next.toNat : Int) =
        (s.cur.pc.toNat + if imm.toNat < 128 then 2 + (imm.toNat : Int) else -(1 + ((imm.toNat : Int) - 128))) % 65536)

/-- `j`: to pc + offset modulo 2^16; only the pc changes. -/
def Obligations.JumpByImmediate : Prop :=
  ∀ (s : State) (imm : BitVec 12), Decodes (BitVec.ofNat 16 (0xA000 + imm.toNat)) (.j imm) ∧
    ∃ next, JumpsTo (.j imm) s next ∧ (next.toNat : Int) =
      (s.cur.pc.toNat + if imm.toNat < 2048 then 2 + (imm.toNat : Int) else -(1 + ((imm.toNat : Int) - 2048))) % 65536

/-- `jr`: to the register plus the sign-extended immediate modulo 2^16; only the pc changes. -/
def Obligations.JumpToRegister : Prop :=
  ∀ (s : State) (r : Reg) (imm : BitVec 8), Decodes (riTableWord 0xB r imm) (.jr r imm) ∧
    ∃ next, JumpsTo (.jr r imm) s next ∧ (next.toNat : Int) = ((s.cur.reg r).toNat + imm.toInt) % 65536

/-- The branch and jump offsets: +2 on for a clear sign bit, -1 down for a set one; 0 and 1 are never an offset, and
every other distance of the range is exactly one offset. -/
def Obligations.OffsetsSkipZeroAndOne : Prop :=
  (∀ imm : BitVec 8, (imm.getLsbD 7 = false → off8 imm = 2 + (imm.extractLsb' 0 7).toNat) ∧
    (imm.getLsbD 7 = true → off8 imm = -(1 + (imm.extractLsb' 0 7).toNat))) ∧
  (∀ imm : BitVec 12, (imm.getLsbD 11 = false → off12 imm = 2 + (imm.extractLsb' 0 11).toNat) ∧
    (imm.getLsbD 11 = true → off12 imm = -(1 + (imm.extractLsb' 0 11).toNat))) ∧
  (∀ d : Int, (∃ imm, off8 imm = d) ↔ (2 ≤ d ∧ d ≤ 129 ∨ -128 ≤ d ∧ d ≤ -1)) ∧
  (∀ d : Int, (∃ imm, off12 imm = d) ↔ (2 ≤ d ∧ d ≤ 2049 ∨ -2048 ≤ d ∧ d ≤ -1)) ∧
  (∀ a b : BitVec 8, off8 a = off8 b → a = b) ∧ (∀ a b : BitVec 12, off12 a = off12 b → a = b)

/-! ### Frames and invariants of the whole machine -/

/-- No step of any kind, of a core or of the coordinator, changes an instruction segment. -/
def Obligations.InstructionSegmentsNeverChange : Prop :=
  ∀ s t : State, step s = .next t →
    t.main.imem = s.main.imem ∧ t.testee.imem = s.testee.imem ∧
      t.players.map Vm.imem = s.players.map Vm.imem

/-- An instruction changes only the core that executes it: every other core, the coordinator and the fixed data are as
before. -/
def Obligations.OnlyTheExecutingCoreChanges : Prop :=
  ∀ (i : Instr) (s t : State), exec i s = .next t → s.OthersKept t

/-- An instruction learns nothing of the other cores: two machines that agree on the executing core, the option and the
position in the free values end it with the same core and the same result. -/
def Obligations.ExecSeesOnlyItsCore : Prop :=
  ∀ (i : Instr) (s s' t : State), s'.cur = s.cur → s'.expRootEnabled = s.expRootEnabled →
    s'.rngCalls = s.rngCalls → s'.freeDraws = s.freeDraws → exec i s = .next t →
    ∃ t', exec i s' = .next t' ∧ t'.cur = t.cur ∧ t'.result = t.result

/-- Every step keeps the invariant: segments in canonical form, no zero limit, a control state that fits the protocol,
and a controlled run within its allowance and the driver's budget. -/
def Obligations.StepKeepsInvariant : Prop :=
  ∀ s t : State, s.Inv → step s = .next t → t.Inv

/-- The reset state meets the invariant (what State.reset is rests on log entries 1 to 4). -/
def Obligations.ResetMeetsInvariant : Prop := State.reset.Inv

/-- Every start of a coordinated run meets the invariant, whatever the option, the budget, the environment and the
images loaded, and whatever the minor version is (log entries 4 and 15). -/
def Obligations.CoordinatedStartsMeetInvariant : Prop :=
  ∀ (e : Bool) (env : Word) (d : Memory) (ms : List Memory) (n : Count), d.wf = true → (∀ m ∈ ms, m.wf = true) →
    (∀ m ∈ ms, (State.startTestDriver e d m n).Inv) ∧ (State.startJudge e env d ms n).Inv

/-- Creation: every register, the pc, the counter, the latch and every data word are 0, the core is RUNNING, the budget
and the instruction segment are the ones given. The reset state holds such a core, with an empty segment, no limit and
EXP_ROOT_ENABLED off: that it is a directly run VM and holds no image is the model's choice (log entries 2, 3, 4). -/
def Obligations.CreationState : Prop :=
  (∀ (m : Memory) (n : Count), (∀ r, (Vm.created m n).reg r = 0) ∧ (Vm.created m n).pc = 0 ∧
    (∀ a, (Vm.created m n).readData a = 0) ∧ (Vm.created m n).counter = 0 ∧ (Vm.created m n).yieldLatch = 0 ∧
    (Vm.created m n).status = .running ∧ (Vm.created m n).imem = m ∧ (Vm.created m n).budget = n) ∧
  (∃ n, State.reset.main = Vm.created [] n) ∧ State.reset.cstate = .runDriver ∧ State.reset.testeeLimit = none ∧
  State.reset.expRootEnabled = false

/-- Loading: an image of at most 131 072 bytes gives a core whose word i is bytes 2i and 2i + 1, high byte first, bytes
past the image 0; a longer image is refused. -/
def Obligations.CreateLoadsImage : Prop :=
  ∀ (image : List Byte) (n : Count),
    (image.length ≤ 131072 → ∃ c, createFromImage image n = .next c ∧ c.budget = n ∧
      ∀ a : Word, c.readInstr a = image.getD (2 * a.toNat) 0 ++ image.getD (2 * a.toNat + 1) 0) ∧
    (131072 < image.length → createFromImage image n = .refused .imageTooLong)

/-- The canonical form is canonical: two segments in it that read the same everywhere are equal data. -/
def Obligations.EqualReadsAreEqualSegments : Prop :=
  ∀ m n : Memory, m.wf = true → n.wf = true → (∀ a : Word, m.readWord a = n.readWord a) → m = n

/-! ### The run loop (60_exceptions.md section 5) -/

/-- Every run ends within its allowance: it retires as many instructions as its budget drops by, at most the caller's
limit; a TimeOut means the budget is used up or the limit reached; a yield leaves the core SUSPENDED on that value; an
IllegalInstruction leaves it halted. -/
def Obligations.RunEndsWithinAllowance : Prop :=
  ∀ (s : State) (limit : Option Nat) (o : RunOutcome) (t : State), s.run limit = (o, t) →
    t.cur.budget.toNat ≤ s.cur.budget.toNat ∧
    t.cur.counter = s.cur.counter + (s.cur.budget - t.cur.budget) ∧
    (∀ m, limit = some m → s.cur.budget.toNat - t.cur.budget.toNat ≤ m) ∧
    (o = .timeOut → t.cur.budget = 0 ∨ limit = some (s.cur.budget.toNat - t.cur.budget.toNat)) ∧
    (∀ v, o = .yielded v → t.cur.status = .suspended ∧ t.cur.yieldLatch = v) ∧
    (o = .illegalInstruction → t.cur.status = .haltedIllegal)

/-- Resume: a SUSPENDED core becomes RUNNING and keeps everything else, so the next step fetches at the advanced pc; in
any other state it does nothing. -/
def Obligations.ResumeOnlyWakesSuspended : Prop :=
  ∀ s : State, (s.cur.status = .suspended → s.resume = s.setCur { s.cur with status := .running }) ∧
    (s.cur.status ≠ .suspended → s.resume = s)

/-! ### The coordinator (65_coordination.md) -/

/-- A driver or judge with no budget left to interpret its yield times out and no request is applied; a test driver's
request code 0 or from 10 on is a fatal error that names the code; a finished run performs no further step. -/
def Obligations.RequestsTurnedAway : Prop :=
  ∀ s : State, s.protocol ≠ .direct →
    (s.cstate = .dispatch → s.main.budget = 0 → step s = .next { s with cstate := .finished .driverTimeOut }) ∧
    (∀ code, Dispatches s code → (code = 0 ∨ 10 ≤ code.toNat) →
      step s = .next { s with cstate := .finished (.driverError (.unknownRequest code)) }) ∧
    (∀ o, s.cstate = .finished o → step s = .next s)

/-- Requests 4, 5 and 6 copy x[3] words between the segments they name, source and destination wrapping independently,
change no other word and nothing else, and the driver is next. -/
def Obligations.CopyRequestsMoveWords : Prop :=
  ∀ s : State,
    (Dispatches s 4 → s.testee.dmem.wf = true → ∃ m,
      step s = .next { s with testee := { s.testee with dmem := m }, cstate := .runDriver } ∧
      Copied s.testee.dmem m s.main.dmem (s.main.reg 1) (s.main.reg 2) (s.main.reg 3).toNat) ∧
    (Dispatches s 5 → s.main.dmem.wf = true → ∃ m,
      step s = .next { s with main := { s.main with dmem := m }, cstate := .runDriver } ∧
      Copied s.main.dmem m s.testee.dmem (s.main.reg 1) (s.main.reg 2) (s.main.reg 3).toNat) ∧
    (Dispatches s 6 → s.main.dmem.wf = true → ∃ m,
      step s = .next { s with main := { s.main with dmem := m }, cstate := .runDriver } ∧
      Copied s.main.dmem m s.testee.imem (s.main.reg 1) (s.main.reg 2) (s.main.reg 3).toNat)

/-- Request 4 and then request 5 from where it wrote give the driver its own words back, across wrap-around too. -/
def Obligations.WriteThenReadGivesWordsBack : Prop :=
  ∀ s t u : State, Dispatches s 4 → s.testee.dmem.wf = true → step s = .next t →
    Dispatches u 5 → u.main.dmem.wf = true → u.testee = t.testee → u.main.reg 2 = s.main.reg 1 →
    u.main.reg 3 = s.main.reg 3 →
    ∃ v, step u = .next v ∧ ∀ j, j < (s.main.reg 3).toNat →
      v.main.readData (wordAt (u.main.reg 1) j) = s.main.readData (wordAt (s.main.reg 2) j)

/-- Request 3: the registers whose mask bit is set take the driver's words, then all sixteen registers stand in the
driver's sixteen words from the offset on, and nothing else changes. -/
def Obligations.RegisterTransferLoadsThenWritesBack : Prop :=
  ∀ s : State, Dispatches s 3 → s.main.dmem.wf = true → ∃ x m,
    step s = .next { s with testee := { s.testee with x := x }, main := { s.main with dmem := m }, cstate := .runDriver } ∧
    (∀ i : Fin 16, x[i] = if (s.main.reg 1).getLsbD i then s.main.readData (wordAt (s.main.reg 2) i)
      else s.testee.x[i]) ∧
    (∀ i : Fin 16, m.readWord (wordAt (s.main.reg 2) i) = x[i]) ∧
    (∀ a, (∀ i : Fin 16, a ≠ wordAt (s.main.reg 2) i) → m.readWord a = s.main.readData a)

/-- Requests 7 and 9: a reset zeroes the testee's data, registers and pc, makes it RUNNING and clears the latch, and
keeps its image, counter and budget and the limit; setting the pc changes the testee's pc alone. -/
def Obligations.ResetAndSetPc : Prop :=
  ∀ s : State,
    (Dispatches s 7 → ∃ c, step s = .next { s with testee := c, cstate := .runDriver } ∧ (∀ r, c.reg r = 0) ∧
      (∀ a, c.readData a = 0) ∧ c.pc = 0 ∧ c.status = .running ∧ c.yieldLatch = 0 ∧ c.imem = s.testee.imem ∧
      c.counter = s.testee.counter ∧ c.budget = s.testee.budget) ∧
    (Dispatches s 9 → step s = .next { s with testee := { s.testee with pc := s.main.reg 1 }, cstate := .runDriver })

/-- Request 8: the 48-bit limit from x[1] (most significant), x[2], x[3]; zero is fatal; any other value is the limit of
every later execute, which runs with the lesser of it and the driver's budget, until another request 8 replaces it.
That the dispatch step loads this allowance and holds it in the control state is the model's choice (log entry 14). -/
def Obligations.TimeLimitHoldsUntilReplaced : Prop :=
  (∀ (s : State) (n : Nat), Dispatches s 8 →
    n = (s.main.reg 1).toNat * 2 ^ 32 + (s.main.reg 2).toNat * 2 ^ 16 + (s.main.reg 3).toNat →
    (n = 0 → step s = .next { s with cstate := .finished (.driverError .zeroLimit) }) ∧
    (n ≠ 0 → step s = .next { s with testeeLimit := some (BitVec.ofNat 48 n), cstate := .runDriver })) ∧
  (∀ s t : State, step s = .next t → t.testeeLimit ≠ s.testeeLimit → Dispatches s 8) ∧
  (∀ (s : State) (n : BitVec 48), Dispatches s 1 → s.testeeLimit = some n → ∃ allow : Count,
    step s = .next { s with testee := { s.testee with budget := allow }, cstate := .runTestee allow } ∧
    allow.toNat = min n.toNat s.main.budget.toNat)

/-- Request 2: with the magic pair after the first N words the run is done with those words as results, else it is a
fatal error; no core changes. -/
def Obligations.DoneChecksTheMagicPair : Prop :=
  ∀ (s : State) (n : Nat), Dispatches s 2 → n = (s.main.reg 1).toNat →
    (s.main.readData (wordAt 0 n) = 0x650D ∧ s.main.readData (wordAt 0 (n + 1)) = 0x4585 → ∃ results,
      step s = .next { s with cstate := .finished (.done (s.main.reg 1) results) } ∧ results.length = n ∧
      ∀ j, j < n → results[j]? = some (s.main.readData (wordAt 0 j))) ∧
    (¬(s.main.readData (wordAt 0 n) = 0x650D ∧ s.main.readData (wordAt 0 (n + 1)) = 0x4585) →
      step s = .next { s with cstate := .finished (.driverError .badMagic) })

/-- Request 1: some number of machine steps after the dispatch, the testee has made one whole run with the driver's
budget, clamped by the limit, as its own; the driver has paid what the testee retired, is told the outcome, and is next.
The step by step coordinator (log entry 14) does what the spec's `execute_testee` does at once (`State.run`, log entry
17). -/
def Obligations.ExecuteTesteeIsOneRun : Prop :=
  ∀ (s : State) (allow : Count), Dispatches s 1 →
    (s.testeeLimit = none → allow = s.main.budget) →
    (∀ n, s.testeeLimit = some n → allow.toNat = min n.toNat s.main.budget.toNat) →
    ∃ (k : Nat) (v u w : State) (o : RunOutcome),
      u = { s with testee := { s.testee with budget := allow }, cstate := .runTestee allow } ∧
      u.run none = (o, w) ∧ Sys2Proof.core.run k s = .next v ∧
      v.testee = w.testee ∧ v.events = w.events ∧ v.cstate = .runDriver ∧ v.testeeLimit = s.testeeLimit ∧
      Told s.main v.main o ∧ v.main.budget = s.main.budget - (allow - v.testee.budget) ∧
      v.main.dmem = s.main.dmem ∧ v.main.pc = s.main.pc ∧ v.main.counter = s.main.counter

/-- Shared budget: every step of the test-driver protocol keeps the sum of the driver's budget and of the instructions
driver and testee have retired, less what a testee's run in progress has still to be charged for; so in every run from
its start, at every dispatch, the driver's budget is the initial one less every instruction the driver and the testee
have retired, each counted once. -/
def Obligations.SharedBudgetAccounts : Prop :=
  (∀ s t : State, s.protocol = .testDriver → (∀ p allow, s.cstate ≠ .runPlayer p allow) → step s = .next t →
    t.ledger = s.ledger ∧ t.protocol = .testDriver ∧ ∀ p allow, t.cstate ≠ .runPlayer p allow) ∧
  ∀ (e : Bool) (driver testee : Memory) (initial : Count) (k : Nat) (s : State),
    Sys2Proof.core.run k (State.startTestDriver e driver testee initial) = .next s → s.cstate = .dispatch →
    s.main.budget = initial - s.main.counter - s.testee.counter

/-- A judge's dispatch that is no player turn: 0xFFFF is the judgment, the signed scores of the first PLAYER_COUNT words;
any other index from PLAYER_COUNT on is fatal. -/
def Obligations.JudgmentOrBadPlayer : Prop :=
  ∀ (s : State) (p : Word), JudgeDispatches s p →
    (p = 0xFFFF → ∃ scores, step s = .next { s with cstate := .finished (.judgment scores) } ∧
      scores.length = s.players.length ∧
      ∀ j, j < s.players.length → scores[j]? = some (s.main.readData (wordAt 0 j)).toInt) ∧
    (p ≠ 0xFFFF → s.players.length ≤ p.toNat →
      step s = .next { s with cstate := .finished (.driverError .badPlayer) })

/-- Descriptors are checked before any is applied: one whose sizes differ, are 0 or exceed 0x7FFF ends the run, and so
does, after the check, a zero allotted time; no core changes. -/
def Obligations.DescriptorsCheckedBeforeUse : Prop :=
  ∀ (s : State) (p : Word), JudgeDispatches s p → p ≠ 0xFFFF → p.toNat < s.players.length →
    ((∃ d ∈ s.main.dmem.writeDescriptors ++ s.main.dmem.readDescriptors,
        d.playerEnd - d.playerBegin ≠ d.judgeEnd - d.judgeBegin ∨ d.playerEnd = d.playerBegin ∨
          0x7FFF < (d.playerEnd - d.playerBegin).toNat) →
      step s = .next { s with cstate := .finished (.driverError .badDescriptor) }) ∧
    ((∀ d ∈ s.main.dmem.writeDescriptors ++ s.main.dmem.readDescriptors,
        d.playerEnd - d.playerBegin = d.judgeEnd - d.judgeBegin ∧ d.playerEnd ≠ d.playerBegin ∧
          (d.playerEnd - d.playerBegin).toNat ≤ 0x7FFF) →
      (∀ j, j < 4 → s.main.readData (wordAt 0 j) = 0) →
      step s = .next { s with cstate := .finished (.driverError .zeroAllotment) })

/-- A player turn begins: only player p changes; it is loaded with the lesser of the allotted time and the judge's
budget, no word outside the write descriptors changes, and every word of every write descriptor that no later one covers
is the judge's, the descriptors being applied in order. -/
def Obligations.PlayerTurnLoadsPlayer : Prop :=
  ∀ (s : State) (p : Word) (c : Vm) (time : Nat), JudgeDispatches s p → p ≠ 0xFFFF →
    s.players[p.toNat]? = some c → c.dmem.wf = true →
    (∀ d ∈ s.main.dmem.writeDescriptors ++ s.main.dmem.readDescriptors, d.valid = true) →
    time = (s.main.readData 0).toNat * 2 ^ 48 + (s.main.readData 1).toNat * 2 ^ 32 +
      (s.main.readData 2).toNat * 2 ^ 16 + (s.main.readData 3).toNat → time ≠ 0 →
    ∃ (allow : Count) (m : Memory),
      step s = .next { s with
        players := s.players.set p.toNat { c with budget := allow, dmem := m }
        cstate := .runPlayer p.toNat allow } ∧
      allow.toNat = min time s.main.budget.toNat ∧
      (∀ a, (∀ d ∈ s.main.dmem.writeDescriptors, ∀ j, j < d.playerSize.toNat → a ≠ wordAt d.playerBegin j) →
        m.readWord a = c.readData a) ∧
      (∀ (i : Nat) (d : Descriptor), s.main.dmem.writeDescriptors[i]? = some d → ∀ j, j < d.playerSize.toNat →
        (∀ i' d', i < i' → s.main.dmem.writeDescriptors[i']? = some d' →
          ¬Covers d'.playerBegin d'.playerSize.toNat (wordAt d.playerBegin j)) →
        m.readWord (wordAt d.playerBegin j) = s.main.readData (wordAt d.judgeBegin j))

/-- A player turn ends in this order: the judge pays the steps the player retired and receives the player's data and
registers (`JudgeGains`, for the table as it is before the turn's results are written: log entry 11), JUDGE_R is
applied, the judge is told the outcome, and the judge is next. Whatever JUDGE_R does, the judge is told and is next
(JUDGE_R is a free list of access transactions in the model: log entry 10); where it does nothing, nothing else
happens. -/
def Obligations.PlayerTurnTellsJudge : Prop :=
  (∀ (judge : Memory) (player : Vm), judge.wf = true → JudgeGains judge (judgeDataAfter judge player) player) ∧
  ∀ (s u : State) (p : Nat) (allow : Count) (o : RunOutcome), s.protocol = .judge → s.cstate = .runPlayer p allow →
    stepCore s.resume = .next u → u.ending = some o →
    ∃ t, step s = .next t ∧ t.cstate = .runDriver ∧ t.players.length = s.players.length ∧
      (∀ v, o = .yielded v → t.main.reg 0 = 0 ∧ t.main.reg 1 = v) ∧ (o = .timeOut → t.main.reg 0 = 1) ∧
      (o = .illegalInstruction → t.main.reg 0 = 0xFFFF) ∧
      ∀ player, u.players[p]? = some player →
        t = u.endTurnWith p allow o (Config.judgeR s.main.dmem.judgeOperand u.freeDraws) ∧
        ∃ judge : Vm,
          u.endTurnWith p allow o [] = { u with main := judge, cstate := .runDriver, freeDraws := u.freeDraws + 1 } ∧
          judge.budget = s.main.budget - (allow - player.budget) ∧
          judge.dmem = judgeDataAfter s.main.dmem player ∧ Told s.main judge o ∧
          judge = { s.main with x := judge.x, budget := judge.budget, dmem := judge.dmem }
end

