-- ==== Sys2Proof/Laws/State.lean ====
section
/-! SUPPORT. The small lemmas of the state's updates: one per field per update, true by unfolding, so that no later
proof unfolds a record update; and what each shared ending of an instruction answers. -/

namespace Sys2Proof.Machine

/-! ### Registers of one core -/

@[simp] theorem Vm.reg_setReg_same (c : Vm) (r : Reg) (v : Word) : (c.setReg r v).reg r = v := by
  simp [Vm.reg, Vm.setReg]

theorem Vm.reg_setReg_ne (c : Vm) {r q : Reg} (v : Word) (h : q ≠ r) : (c.setReg r v).reg q = c.reg q := by
  have hn : r.toNat ≠ q.toNat := fun e => h (BitVec.eq_of_toNat_eq e.symm)
  simp [Vm.reg, Vm.setReg, Vector.getElem_set_ne, hn]

theorem Vm.reg_setReg (c : Vm) (r q : Reg) (v : Word) : (c.setReg r v).reg q = if q = r then v else c.reg q := by
  by_cases h : q = r
  · simp [h]
  · simp [h, Vm.reg_setReg_ne]

@[simp] theorem Vm.setReg_pc (c : Vm) (r : Reg) (v : Word) : (c.setReg r v).pc = c.pc := rfl
@[simp] theorem Vm.setReg_imem (c : Vm) (r : Reg) (v : Word) : (c.setReg r v).imem = c.imem := rfl
@[simp] theorem Vm.setReg_dmem (c : Vm) (r : Reg) (v : Word) : (c.setReg r v).dmem = c.dmem := rfl
@[simp] theorem Vm.setReg_counter (c : Vm) (r : Reg) (v : Word) : (c.setReg r v).counter = c.counter := rfl
@[simp] theorem Vm.setReg_budget (c : Vm) (r : Reg) (v : Word) : (c.setReg r v).budget = c.budget := rfl
@[simp] theorem Vm.setReg_status (c : Vm) (r : Reg) (v : Word) : (c.setReg r v).status = c.status := rfl
@[simp] theorem Vm.setReg_yieldLatch (c : Vm) (r : Reg) (v : Word) : (c.setReg r v).yieldLatch = c.yieldLatch := rfl

/-! ### A data write -/

@[simp] theorem Vm.writeData_x (c : Vm) (a v : Word) : (c.writeData a v).x = c.x := rfl
@[simp] theorem Vm.writeData_reg (c : Vm) (a v : Word) (r : Reg) : (c.writeData a v).reg r = c.reg r := rfl
@[simp] theorem Vm.writeData_pc (c : Vm) (a v : Word) : (c.writeData a v).pc = c.pc := rfl
@[simp] theorem Vm.writeData_imem (c : Vm) (a v : Word) : (c.writeData a v).imem = c.imem := rfl
@[simp] theorem Vm.writeData_dmem (c : Vm) (a v : Word) : (c.writeData a v).dmem = c.dmem.writeWord a v := rfl
@[simp] theorem Vm.writeData_counter (c : Vm) (a v : Word) : (c.writeData a v).counter = c.counter := rfl
@[simp] theorem Vm.writeData_budget (c : Vm) (a v : Word) : (c.writeData a v).budget = c.budget := rfl
@[simp] theorem Vm.writeData_status (c : Vm) (a v : Word) : (c.writeData a v).status = c.status := rfl
@[simp] theorem Vm.writeData_yieldLatch (c : Vm) (a v : Word) : (c.writeData a v).yieldLatch = c.yieldLatch := rfl

/-! ### The retire phase -/

@[simp] theorem Vm.retire_x (c : Vm) (n : Word) : (c.retire n).x = c.x := rfl
@[simp] theorem Vm.retire_reg (c : Vm) (n : Word) (r : Reg) : (c.retire n).reg r = c.reg r := rfl
@[simp] theorem Vm.retire_pc (c : Vm) (n : Word) : (c.retire n).pc = n := rfl
@[simp] theorem Vm.retire_imem (c : Vm) (n : Word) : (c.retire n).imem = c.imem := rfl
@[simp] theorem Vm.retire_dmem (c : Vm) (n : Word) : (c.retire n).dmem = c.dmem := rfl
@[simp] theorem Vm.retire_counter (c : Vm) (n : Word) : (c.retire n).counter = c.counter + 1 := rfl
@[simp] theorem Vm.retire_budget (c : Vm) (n : Word) : (c.retire n).budget = c.budget - 1 := rfl
@[simp] theorem Vm.retire_status (c : Vm) (n : Word) : (c.retire n).status = c.status := rfl
@[simp] theorem Vm.retire_yieldLatch (c : Vm) (n : Word) : (c.retire n).yieldLatch = c.yieldLatch := rfl

/-! ### Resume -/

@[simp] theorem Vm.resume_x (c : Vm) : c.resume.x = c.x := by unfold Vm.resume; split <;> rfl
@[simp] theorem Vm.resume_reg (c : Vm) (r : Reg) : c.resume.reg r = c.reg r := by unfold Vm.resume; split <;> rfl
@[simp] theorem Vm.resume_pc (c : Vm) : c.resume.pc = c.pc := by unfold Vm.resume; split <;> rfl
@[simp] theorem Vm.resume_imem (c : Vm) : c.resume.imem = c.imem := by unfold Vm.resume; split <;> rfl
@[simp] theorem Vm.resume_dmem (c : Vm) : c.resume.dmem = c.dmem := by unfold Vm.resume; split <;> rfl
@[simp] theorem Vm.resume_counter (c : Vm) : c.resume.counter = c.counter := by unfold Vm.resume; split <;> rfl
@[simp] theorem Vm.resume_budget (c : Vm) : c.resume.budget = c.budget := by unfold Vm.resume; split <;> rfl
@[simp] theorem Vm.resume_yieldLatch (c : Vm) : c.resume.yieldLatch = c.yieldLatch := by
  unfold Vm.resume; split <;> rfl

theorem Vm.resume_running {c : Vm} (h : c.status = .running) : c.resume = c := by simp [Vm.resume, h]
theorem Vm.resume_halted {c : Vm} (h : c.status = .haltedIllegal) : c.resume = c := by simp [Vm.resume, h]
theorem Vm.resume_suspended {c : Vm} (h : c.status = .suspended) : c.resume = { c with status := .running } := by
  simp [Vm.resume, h]

/-- After a resume a core is running or halted, never suspended. -/
theorem Vm.resume_status_ne (c : Vm) : c.resume.status ≠ .suspended := by
  unfold Vm.resume
  split <;> simp_all

/-! ### A result reported -/

@[simp] theorem State.report_protocol (s : State) (r : StepResult) : (s.report r).protocol = s.protocol := rfl
@[simp] theorem State.report_expRootEnabled (s : State) (r : StepResult) :
    (s.report r).expRootEnabled = s.expRootEnabled := rfl
@[simp] theorem State.report_main (s : State) (r : StepResult) : (s.report r).main = s.main := rfl
@[simp] theorem State.report_testee (s : State) (r : StepResult) : (s.report r).testee = s.testee := rfl
@[simp] theorem State.report_players (s : State) (r : StepResult) : (s.report r).players = s.players := rfl
@[simp] theorem State.report_cstate (s : State) (r : StepResult) : (s.report r).cstate = s.cstate := rfl
@[simp] theorem State.report_testeeLimit (s : State) (r : StepResult) : (s.report r).testeeLimit = s.testeeLimit := rfl
@[simp] theorem State.report_result (s : State) (r : StepResult) : (s.report r).result = some r := rfl
@[simp] theorem State.report_events (s : State) (r : StepResult) : (s.report r).events = s.events := rfl
@[simp] theorem State.report_rngCalls (s : State) (r : StepResult) : (s.report r).rngCalls = s.rngCalls := rfl
@[simp] theorem State.report_freeDraws (s : State) (r : StepResult) : (s.report r).freeDraws = s.freeDraws := rfl
@[simp] theorem State.report_agent (s : State) (r : StepResult) : (s.report r).agent = s.agent := rfl
@[simp] theorem State.report_vm (s : State) (r : StepResult) (a : Agent) : (s.report r).vm a = s.vm a := rfl
@[simp] theorem State.report_cur (s : State) (r : StepResult) : (s.report r).cur = s.cur := rfl
@[simp] theorem State.report_ending (s : State) (r : StepResult) : (s.report r).ending = r.outcome := rfl

/-! ### A core replaced -/

@[simp] theorem State.vm_setVm (s : State) (a : Agent) (c : Vm) : (s.setVm a c).vm a = c := by
  cases a with
  | main => rfl
  | testee => rfl
  | player p =>
    unfold State.setVm
    by_cases h : p < s.players.length
    · simp [State.vm, h]
    · simp [State.vm, h]

@[simp] theorem State.setVm_protocol (s : State) (a : Agent) (c : Vm) : (s.setVm a c).protocol = s.protocol := by
  unfold State.setVm; repeat' split
  all_goals rfl
@[simp] theorem State.setVm_expRootEnabled (s : State) (a : Agent) (c : Vm) :
    (s.setVm a c).expRootEnabled = s.expRootEnabled := by
  unfold State.setVm; repeat' split
  all_goals rfl
@[simp] theorem State.setVm_cstate (s : State) (a : Agent) (c : Vm) : (s.setVm a c).cstate = s.cstate := by
  unfold State.setVm; repeat' split
  all_goals rfl
@[simp] theorem State.setVm_testeeLimit (s : State) (a : Agent) (c : Vm) :
    (s.setVm a c).testeeLimit = s.testeeLimit := by
  unfold State.setVm; repeat' split
  all_goals rfl
@[simp] theorem State.setVm_result (s : State) (a : Agent) (c : Vm) : (s.setVm a c).result = s.result := by
  unfold State.setVm; repeat' split
  all_goals rfl
@[simp] theorem State.setVm_events (s : State) (a : Agent) (c : Vm) : (s.setVm a c).events = s.events := by
  unfold State.setVm; repeat' split
  all_goals rfl
@[simp] theorem State.setVm_rngCalls (s : State) (a : Agent) (c : Vm) : (s.setVm a c).rngCalls = s.rngCalls := by
  unfold State.setVm; repeat' split
  all_goals rfl
@[simp] theorem State.setVm_freeDraws (s : State) (a : Agent) (c : Vm) : (s.setVm a c).freeDraws = s.freeDraws := by
  unfold State.setVm; repeat' split
  all_goals rfl
@[simp] theorem State.setVm_playersLength (s : State) (a : Agent) (c : Vm) :
    (s.setVm a c).players.length = s.players.length := by
  unfold State.setVm; repeat' split
  all_goals simp
@[simp] theorem State.setVm_agent (s : State) (a : Agent) (c : Vm) : (s.setVm a c).agent = s.agent := by
  simp [State.agent]

@[simp] theorem State.setVm_main (s : State) (c : Vm) : s.setVm .main c = { s with main := c } := rfl
@[simp] theorem State.setVm_testee (s : State) (c : Vm) : s.setVm .testee c = { s with testee := c } := rfl

/-! ### The executing core replaced -/

@[simp] theorem State.cur_setCur (s : State) (c : Vm) : (s.setCur c).cur = c := by
  simp [State.setCur, State.cur]

@[simp] theorem State.setCur_protocol (s : State) (c : Vm) : (s.setCur c).protocol = s.protocol := by
  simp [State.setCur]
@[simp] theorem State.setCur_expRootEnabled (s : State) (c : Vm) : (s.setCur c).expRootEnabled = s.expRootEnabled := by
  simp [State.setCur]
@[simp] theorem State.setCur_cstate (s : State) (c : Vm) : (s.setCur c).cstate = s.cstate := by simp [State.setCur]
@[simp] theorem State.setCur_testeeLimit (s : State) (c : Vm) : (s.setCur c).testeeLimit = s.testeeLimit := by
  simp [State.setCur]
@[simp] theorem State.setCur_result (s : State) (c : Vm) : (s.setCur c).result = s.result := by simp [State.setCur]
@[simp] theorem State.setCur_events (s : State) (c : Vm) : (s.setCur c).events = s.events := by simp [State.setCur]
@[simp] theorem State.setCur_rngCalls (s : State) (c : Vm) : (s.setCur c).rngCalls = s.rngCalls := by
  simp [State.setCur]
@[simp] theorem State.setCur_freeDraws (s : State) (c : Vm) : (s.setCur c).freeDraws = s.freeDraws := by
  simp [State.setCur]
@[simp] theorem State.setCur_playersLength (s : State) (c : Vm) :
    (s.setCur c).players.length = s.players.length := by simp [State.setCur]
@[simp] theorem State.setCur_agent (s : State) (c : Vm) : (s.setCur c).agent = s.agent := by simp [State.setCur]

/-! ### The free-value fields do not move a core -/

@[simp] theorem State.cur_withRngCalls (s : State) (n : Nat) : ({ s with rngCalls := n } : State).cur = s.cur := rfl
@[simp] theorem State.agent_withRngCalls (s : State) (n : Nat) : ({ s with rngCalls := n } : State).agent = s.agent := rfl
@[simp] theorem State.cur_withFreeDraws (s : State) (n : Nat) : ({ s with freeDraws := n } : State).cur = s.cur := rfl
@[simp] theorem State.agent_withFreeDraws (s : State) (n : Nat) :
    ({ s with freeDraws := n } : State).agent = s.agent := rfl
@[simp] theorem State.cur_withEvents (s : State) (l : List DebugEvent) : ({ s with events := l } : State).cur = s.cur := rfl
@[simp] theorem State.agent_withEvents (s : State) (l : List DebugEvent) :
    ({ s with events := l } : State).agent = s.agent := rfl

/-! ### What each ending of an instruction answers -/

/-- A retiring instruction answers next, and this is the next state (60_exceptions.md R805, R806). -/
theorem State.retire_eq (s : State) (c : Vm) (next : Word) (r : StepResult) :
    s.retire c next r = .next ((s.setCur (c.retire next)).report r) := rfl

/-- An instruction that writes one register answers next, and this is the next state. -/
theorem State.retireReg_eq (s : State) (d : Reg) (v : Word) :
    s.retireReg d v = .next ((s.setCur ((s.cur.setReg d v).retire (s.cur.pc + 1))).report .continued) := rfl

/-- An Illegal word answers next, and this is the next state (60_exceptions.md R820). -/
theorem State.takeIllegal_eq (s : State) :
    s.takeIllegal = .next ((s.setCur { s.cur with status := .haltedIllegal }).report .illegalInstruction) := rfl

@[simp] theorem andThen_next (s : State) (f : State → State) : andThen (.next s) f = .next (f s) := rfl

/-- What a result followed by a function can be: a next state of the first, then the function. -/
theorem andThen_eq_next {o : Host.Outcome State Fault Refusal} {f : State → State} {t : State}
    (h : andThen o f = .next t) : ∃ u, o = .next u ∧ t = f u := by
  cases o with
  | next u => exact ⟨u, rfl, by simpa using h.symm⟩
  | fault r => exact nomatch r
  | refused r => simp [andThen] at h

end Sys2Proof.Machine
end

