-- ==== Sys2Proof/Laws/Coordinator.lean ====
section
/-! SUPPORT. What each operation of the coordinator leaves in each field of the state: one lemma per field per update,
so that no proof about a request unfolds a record update. -/

namespace Sys2Proof.Machine

/-! ### A core -/


/-! #### `Vm.zeroState` -/

@[simp] theorem Vm.zeroState_x (c : Vm) : (c.zeroState).x = Vector.replicate 16 0 := rfl
@[simp] theorem Vm.zeroState_pc (c : Vm) : (c.zeroState).pc = 0 := rfl
@[simp] theorem Vm.zeroState_imem (c : Vm) : (c.zeroState).imem = c.imem := rfl
@[simp] theorem Vm.zeroState_dmem (c : Vm) : (c.zeroState).dmem = [] := rfl
@[simp] theorem Vm.zeroState_counter (c : Vm) : (c.zeroState).counter = c.counter := rfl
@[simp] theorem Vm.zeroState_budget (c : Vm) : (c.zeroState).budget = c.budget := rfl
@[simp] theorem Vm.zeroState_status (c : Vm) : (c.zeroState).status = .running := rfl
@[simp] theorem Vm.zeroState_yieldLatch (c : Vm) : (c.zeroState).yieldLatch = 0 := rfl

/-! #### `Vm.tellOutcome` -/

@[simp] theorem Vm.tellOutcome_pc (c : Vm) (o : RunOutcome) : (c.tellOutcome o).pc = c.pc := by cases o <;> rfl
@[simp] theorem Vm.tellOutcome_imem (c : Vm) (o : RunOutcome) : (c.tellOutcome o).imem = c.imem := by cases o <;> rfl
@[simp] theorem Vm.tellOutcome_dmem (c : Vm) (o : RunOutcome) : (c.tellOutcome o).dmem = c.dmem := by cases o <;> rfl
@[simp] theorem Vm.tellOutcome_counter (c : Vm) (o : RunOutcome) :
    (c.tellOutcome o).counter = c.counter := by cases o <;> rfl
@[simp] theorem Vm.tellOutcome_budget (c : Vm) (o : RunOutcome) :
    (c.tellOutcome o).budget = c.budget := by cases o <;> rfl
@[simp] theorem Vm.tellOutcome_status (c : Vm) (o : RunOutcome) :
    (c.tellOutcome o).status = c.status := by cases o <;> rfl
@[simp] theorem Vm.tellOutcome_yieldLatch (c : Vm) (o : RunOutcome) :
    (c.tellOutcome o).yieldLatch = c.yieldLatch := by cases o <;> rfl

/-- The registers a told core holds: the outcome code in `x[0]`, a yield's value in `x[1]`, the others as before. -/
theorem Vm.tellOutcome_reg (c : Vm) (o : RunOutcome) (r : Reg) :
    (c.tellOutcome o).reg r =
      if r = 0 then outcomeCode o
      else if r = 1 then (match o with | .yielded v => v | .timeOut => c.reg 1 | .illegalInstruction => c.reg 1)
      else c.reg r := by
  cases o <;> simp only [Vm.tellOutcome, Vm.reg_setReg] <;> split <;> simp_all

/-! ### The machine -/


/-! #### `State.finish` -/

@[simp] theorem State.finish_protocol (s : State) (o : CoordOutcome) : (s.finish o).protocol = s.protocol := rfl
@[simp] theorem State.finish_expRootEnabled (s : State) (o : CoordOutcome) :
    (s.finish o).expRootEnabled = s.expRootEnabled := rfl
@[simp] theorem State.finish_main (s : State) (o : CoordOutcome) : (s.finish o).main = s.main := rfl
@[simp] theorem State.finish_testee (s : State) (o : CoordOutcome) : (s.finish o).testee = s.testee := rfl
@[simp] theorem State.finish_players (s : State) (o : CoordOutcome) : (s.finish o).players = s.players := rfl
@[simp] theorem State.finish_cstate (s : State) (o : CoordOutcome) : (s.finish o).cstate = .finished o := rfl
@[simp] theorem State.finish_testeeLimit (s : State) (o : CoordOutcome) :
    (s.finish o).testeeLimit = s.testeeLimit := rfl
@[simp] theorem State.finish_result (s : State) (o : CoordOutcome) : (s.finish o).result = s.result := rfl
@[simp] theorem State.finish_events (s : State) (o : CoordOutcome) : (s.finish o).events = s.events := rfl
@[simp] theorem State.finish_rngCalls (s : State) (o : CoordOutcome) : (s.finish o).rngCalls = s.rngCalls := rfl
@[simp] theorem State.finish_freeDraws (s : State) (o : CoordOutcome) : (s.finish o).freeDraws = s.freeDraws := rfl

/-! #### `State.driverError` -/

@[simp] theorem State.driverError_protocol (s : State) (e : DriverError) :
    (s.driverError e).protocol = s.protocol := rfl
@[simp] theorem State.driverError_expRootEnabled (s : State) (e : DriverError) :
    (s.driverError e).expRootEnabled = s.expRootEnabled := rfl
@[simp] theorem State.driverError_main (s : State) (e : DriverError) : (s.driverError e).main = s.main := rfl
@[simp] theorem State.driverError_testee (s : State) (e : DriverError) : (s.driverError e).testee = s.testee := rfl
@[simp] theorem State.driverError_players (s : State) (e : DriverError) : (s.driverError e).players = s.players := rfl
@[simp] theorem State.driverError_cstate (s : State) (e : DriverError) :
    (s.driverError e).cstate = .finished (.driverError e) := rfl
@[simp] theorem State.driverError_testeeLimit (s : State) (e : DriverError) :
    (s.driverError e).testeeLimit = s.testeeLimit := rfl
@[simp] theorem State.driverError_result (s : State) (e : DriverError) : (s.driverError e).result = s.result := rfl
@[simp] theorem State.driverError_events (s : State) (e : DriverError) : (s.driverError e).events = s.events := rfl
@[simp] theorem State.driverError_rngCalls (s : State) (e : DriverError) :
    (s.driverError e).rngCalls = s.rngCalls := rfl
@[simp] theorem State.driverError_freeDraws (s : State) (e : DriverError) :
    (s.driverError e).freeDraws = s.freeDraws := rfl

/-! #### `State.toDriver` -/

@[simp] theorem State.toDriver_protocol (s : State) : (s.toDriver).protocol = s.protocol := rfl
@[simp] theorem State.toDriver_expRootEnabled (s : State) : (s.toDriver).expRootEnabled = s.expRootEnabled := rfl
@[simp] theorem State.toDriver_main (s : State) : (s.toDriver).main = s.main := rfl
@[simp] theorem State.toDriver_testee (s : State) : (s.toDriver).testee = s.testee := rfl
@[simp] theorem State.toDriver_players (s : State) : (s.toDriver).players = s.players := rfl
@[simp] theorem State.toDriver_cstate (s : State) : (s.toDriver).cstate = .runDriver := rfl
@[simp] theorem State.toDriver_testeeLimit (s : State) : (s.toDriver).testeeLimit = s.testeeLimit := rfl
@[simp] theorem State.toDriver_result (s : State) : (s.toDriver).result = s.result := rfl
@[simp] theorem State.toDriver_events (s : State) : (s.toDriver).events = s.events := rfl
@[simp] theorem State.toDriver_rngCalls (s : State) : (s.toDriver).rngCalls = s.rngCalls := rfl
@[simp] theorem State.toDriver_freeDraws (s : State) : (s.toDriver).freeDraws = s.freeDraws := rfl

/-! #### `State.beginTestee` -/

@[simp] theorem State.beginTestee_protocol (s : State) :
    (s.beginTestee).protocol = s.protocol := by unfold State.beginTestee; rfl
@[simp] theorem State.beginTestee_expRootEnabled (s : State) :
    (s.beginTestee).expRootEnabled = s.expRootEnabled := by unfold State.beginTestee; rfl
@[simp] theorem State.beginTestee_main (s : State) : (s.beginTestee).main = s.main := by unfold State.beginTestee; rfl
@[simp] theorem State.beginTestee_testee (s : State) :
    (s.beginTestee).testee = { s.testee with budget := s.testeeAllowance } := by unfold State.beginTestee; rfl
@[simp] theorem State.beginTestee_players (s : State) :
    (s.beginTestee).players = s.players := by unfold State.beginTestee; rfl
@[simp] theorem State.beginTestee_cstate (s : State) :
    (s.beginTestee).cstate = .runTestee s.testeeAllowance := by unfold State.beginTestee; rfl
@[simp] theorem State.beginTestee_testeeLimit (s : State) :
    (s.beginTestee).testeeLimit = s.testeeLimit := by unfold State.beginTestee; rfl
@[simp] theorem State.beginTestee_result (s : State) :
    (s.beginTestee).result = s.result := by unfold State.beginTestee; rfl
@[simp] theorem State.beginTestee_events (s : State) :
    (s.beginTestee).events = s.events := by unfold State.beginTestee; rfl
@[simp] theorem State.beginTestee_rngCalls (s : State) :
    (s.beginTestee).rngCalls = s.rngCalls := by unfold State.beginTestee; rfl
@[simp] theorem State.beginTestee_freeDraws (s : State) :
    (s.beginTestee).freeDraws = s.freeDraws := by unfold State.beginTestee; rfl

/-! #### `State.endTestee` -/

@[simp] theorem State.endTestee_protocol (s : State) (a : Count) (o : RunOutcome) :
    (s.endTestee a o).protocol = s.protocol := by unfold State.endTestee; rfl
@[simp] theorem State.endTestee_expRootEnabled (s : State) (a : Count) (o : RunOutcome) :
    (s.endTestee a o).expRootEnabled = s.expRootEnabled := by unfold State.endTestee; rfl
@[simp] theorem State.endTestee_main (s : State) (a : Count) (o : RunOutcome) :
    (s.endTestee a o).main = Vm.tellOutcome { s.main with budget := s.main.budget - (a - s.testee.budget) } o :=
  by unfold State.endTestee; rfl
@[simp] theorem State.endTestee_testee (s : State) (a : Count) (o : RunOutcome) :
    (s.endTestee a o).testee = s.testee := by unfold State.endTestee; rfl
@[simp] theorem State.endTestee_players (s : State) (a : Count) (o : RunOutcome) :
    (s.endTestee a o).players = s.players := by unfold State.endTestee; rfl
@[simp] theorem State.endTestee_cstate (s : State) (a : Count) (o : RunOutcome) :
    (s.endTestee a o).cstate = .runDriver := by unfold State.endTestee; rfl
@[simp] theorem State.endTestee_testeeLimit (s : State) (a : Count) (o : RunOutcome) :
    (s.endTestee a o).testeeLimit = s.testeeLimit := by unfold State.endTestee; rfl
@[simp] theorem State.endTestee_result (s : State) (a : Count) (o : RunOutcome) :
    (s.endTestee a o).result = s.result := by unfold State.endTestee; rfl
@[simp] theorem State.endTestee_events (s : State) (a : Count) (o : RunOutcome) :
    (s.endTestee a o).events = s.events := by unfold State.endTestee; rfl
@[simp] theorem State.endTestee_rngCalls (s : State) (a : Count) (o : RunOutcome) :
    (s.endTestee a o).rngCalls = s.rngCalls := by unfold State.endTestee; rfl
@[simp] theorem State.endTestee_freeDraws (s : State) (a : Count) (o : RunOutcome) :
    (s.endTestee a o).freeDraws = s.freeDraws := by unfold State.endTestee; rfl

/-! #### `State.endDriver` -/

@[simp] theorem State.endDriver_protocol (s : State) (o : RunOutcome) :
    (s.endDriver o).protocol = s.protocol := by cases o <;> rfl
@[simp] theorem State.endDriver_expRootEnabled (s : State) (o : RunOutcome) :
    (s.endDriver o).expRootEnabled = s.expRootEnabled := by cases o <;> rfl
@[simp] theorem State.endDriver_main (s : State) (o : RunOutcome) : (s.endDriver o).main = s.main := by cases o <;> rfl
@[simp] theorem State.endDriver_testee (s : State) (o : RunOutcome) :
    (s.endDriver o).testee = s.testee := by cases o <;> rfl
@[simp] theorem State.endDriver_players (s : State) (o : RunOutcome) :
    (s.endDriver o).players = s.players := by cases o <;> rfl
@[simp] theorem State.endDriver_testeeLimit (s : State) (o : RunOutcome) :
    (s.endDriver o).testeeLimit = s.testeeLimit := by cases o <;> rfl
@[simp] theorem State.endDriver_result (s : State) (o : RunOutcome) :
    (s.endDriver o).result = s.result := by cases o <;> rfl
@[simp] theorem State.endDriver_events (s : State) (o : RunOutcome) :
    (s.endDriver o).events = s.events := by cases o <;> rfl
@[simp] theorem State.endDriver_rngCalls (s : State) (o : RunOutcome) :
    (s.endDriver o).rngCalls = s.rngCalls := by cases o <;> rfl
@[simp] theorem State.endDriver_freeDraws (s : State) (o : RunOutcome) :
    (s.endDriver o).freeDraws = s.freeDraws := by cases o <;> rfl

/-! #### `State.requestRegs` -/

@[simp] theorem State.requestRegs_protocol (s : State) :
    (s.requestRegs).protocol = s.protocol := by unfold State.requestRegs; rfl
@[simp] theorem State.requestRegs_expRootEnabled (s : State) :
    (s.requestRegs).expRootEnabled = s.expRootEnabled := by unfold State.requestRegs; rfl
@[simp] theorem State.requestRegs_main (s : State) :
    (s.requestRegs).main = { s.main with
      dmem := s.main.dmem.writeRegs (s.main.reg 2) (transferRegs (s.main.reg 1) (s.main.reg 2) s.main s.testee) } :=
  by unfold State.requestRegs; rfl
@[simp] theorem State.requestRegs_testee (s : State) :
    (s.requestRegs).testee = { s.testee with x := transferRegs (s.main.reg 1) (s.main.reg 2) s.main s.testee } :=
  by unfold State.requestRegs; rfl
@[simp] theorem State.requestRegs_players (s : State) :
    (s.requestRegs).players = s.players := by unfold State.requestRegs; rfl
@[simp] theorem State.requestRegs_cstate (s : State) :
    (s.requestRegs).cstate = s.cstate := by unfold State.requestRegs; rfl
@[simp] theorem State.requestRegs_testeeLimit (s : State) :
    (s.requestRegs).testeeLimit = s.testeeLimit := by unfold State.requestRegs; rfl
@[simp] theorem State.requestRegs_result (s : State) :
    (s.requestRegs).result = s.result := by unfold State.requestRegs; rfl
@[simp] theorem State.requestRegs_events (s : State) :
    (s.requestRegs).events = s.events := by unfold State.requestRegs; rfl
@[simp] theorem State.requestRegs_rngCalls (s : State) :
    (s.requestRegs).rngCalls = s.rngCalls := by unfold State.requestRegs; rfl
@[simp] theorem State.requestRegs_freeDraws (s : State) :
    (s.requestRegs).freeDraws = s.freeDraws := by unfold State.requestRegs; rfl

/-! #### `State.requestWriteData` -/

@[simp] theorem State.requestWriteData_protocol (s : State) :
    (s.requestWriteData).protocol = s.protocol := by unfold State.requestWriteData; rfl
@[simp] theorem State.requestWriteData_expRootEnabled (s : State) :
    (s.requestWriteData).expRootEnabled = s.expRootEnabled := by unfold State.requestWriteData; rfl
@[simp] theorem State.requestWriteData_main (s : State) :
    (s.requestWriteData).main = s.main := by unfold State.requestWriteData; rfl
@[simp] theorem State.requestWriteData_testee (s : State) :
    (s.requestWriteData).testee = { s.testee with
      dmem := s.testee.dmem.copy (s.main.reg 1) s.main.dmem (s.main.reg 2) (s.main.reg 3).toNat } :=
  by unfold State.requestWriteData; rfl
@[simp] theorem State.requestWriteData_players (s : State) :
    (s.requestWriteData).players = s.players := by unfold State.requestWriteData; rfl
@[simp] theorem State.requestWriteData_cstate (s : State) :
    (s.requestWriteData).cstate = s.cstate := by unfold State.requestWriteData; rfl
@[simp] theorem State.requestWriteData_testeeLimit (s : State) :
    (s.requestWriteData).testeeLimit = s.testeeLimit := by unfold State.requestWriteData; rfl
@[simp] theorem State.requestWriteData_result (s : State) :
    (s.requestWriteData).result = s.result := by unfold State.requestWriteData; rfl
@[simp] theorem State.requestWriteData_events (s : State) :
    (s.requestWriteData).events = s.events := by unfold State.requestWriteData; rfl
@[simp] theorem State.requestWriteData_rngCalls (s : State) :
    (s.requestWriteData).rngCalls = s.rngCalls := by unfold State.requestWriteData; rfl
@[simp] theorem State.requestWriteData_freeDraws (s : State) :
    (s.requestWriteData).freeDraws = s.freeDraws := by unfold State.requestWriteData; rfl

/-! #### `State.requestReadData` -/

@[simp] theorem State.requestReadData_protocol (s : State) :
    (s.requestReadData).protocol = s.protocol := by unfold State.requestReadData; rfl
@[simp] theorem State.requestReadData_expRootEnabled (s : State) :
    (s.requestReadData).expRootEnabled = s.expRootEnabled := by unfold State.requestReadData; rfl
@[simp] theorem State.requestReadData_main (s : State) :
    (s.requestReadData).main = { s.main with
      dmem := s.main.dmem.copy (s.main.reg 1) s.testee.dmem (s.main.reg 2) (s.main.reg 3).toNat } :=
  by unfold State.requestReadData; rfl
@[simp] theorem State.requestReadData_testee (s : State) :
    (s.requestReadData).testee = s.testee := by unfold State.requestReadData; rfl
@[simp] theorem State.requestReadData_players (s : State) :
    (s.requestReadData).players = s.players := by unfold State.requestReadData; rfl
@[simp] theorem State.requestReadData_cstate (s : State) :
    (s.requestReadData).cstate = s.cstate := by unfold State.requestReadData; rfl
@[simp] theorem State.requestReadData_testeeLimit (s : State) :
    (s.requestReadData).testeeLimit = s.testeeLimit := by unfold State.requestReadData; rfl
@[simp] theorem State.requestReadData_result (s : State) :
    (s.requestReadData).result = s.result := by unfold State.requestReadData; rfl
@[simp] theorem State.requestReadData_events (s : State) :
    (s.requestReadData).events = s.events := by unfold State.requestReadData; rfl
@[simp] theorem State.requestReadData_rngCalls (s : State) :
    (s.requestReadData).rngCalls = s.rngCalls := by unfold State.requestReadData; rfl
@[simp] theorem State.requestReadData_freeDraws (s : State) :
    (s.requestReadData).freeDraws = s.freeDraws := by unfold State.requestReadData; rfl

/-! #### `State.requestReadInstr` -/

@[simp] theorem State.requestReadInstr_protocol (s : State) :
    (s.requestReadInstr).protocol = s.protocol := by unfold State.requestReadInstr; rfl
@[simp] theorem State.requestReadInstr_expRootEnabled (s : State) :
    (s.requestReadInstr).expRootEnabled = s.expRootEnabled := by unfold State.requestReadInstr; rfl
@[simp] theorem State.requestReadInstr_main (s : State) :
    (s.requestReadInstr).main = { s.main with
      dmem := s.main.dmem.copy (s.main.reg 1) s.testee.imem (s.main.reg 2) (s.main.reg 3).toNat } :=
  by unfold State.requestReadInstr; rfl
@[simp] theorem State.requestReadInstr_testee (s : State) :
    (s.requestReadInstr).testee = s.testee := by unfold State.requestReadInstr; rfl
@[simp] theorem State.requestReadInstr_players (s : State) :
    (s.requestReadInstr).players = s.players := by unfold State.requestReadInstr; rfl
@[simp] theorem State.requestReadInstr_cstate (s : State) :
    (s.requestReadInstr).cstate = s.cstate := by unfold State.requestReadInstr; rfl
@[simp] theorem State.requestReadInstr_testeeLimit (s : State) :
    (s.requestReadInstr).testeeLimit = s.testeeLimit := by unfold State.requestReadInstr; rfl
@[simp] theorem State.requestReadInstr_result (s : State) :
    (s.requestReadInstr).result = s.result := by unfold State.requestReadInstr; rfl
@[simp] theorem State.requestReadInstr_events (s : State) :
    (s.requestReadInstr).events = s.events := by unfold State.requestReadInstr; rfl
@[simp] theorem State.requestReadInstr_rngCalls (s : State) :
    (s.requestReadInstr).rngCalls = s.rngCalls := by unfold State.requestReadInstr; rfl
@[simp] theorem State.requestReadInstr_freeDraws (s : State) :
    (s.requestReadInstr).freeDraws = s.freeDraws := by unfold State.requestReadInstr; rfl

/-! #### `State.requestReset` -/

@[simp] theorem State.requestReset_protocol (s : State) :
    (s.requestReset).protocol = s.protocol := by unfold State.requestReset; rfl
@[simp] theorem State.requestReset_expRootEnabled (s : State) :
    (s.requestReset).expRootEnabled = s.expRootEnabled := by unfold State.requestReset; rfl
@[simp] theorem State.requestReset_main (s : State) :
    (s.requestReset).main = s.main := by unfold State.requestReset; rfl
@[simp] theorem State.requestReset_testee (s : State) :
    (s.requestReset).testee = s.testee.zeroState := by unfold State.requestReset; rfl
@[simp] theorem State.requestReset_players (s : State) :
    (s.requestReset).players = s.players := by unfold State.requestReset; rfl
@[simp] theorem State.requestReset_cstate (s : State) :
    (s.requestReset).cstate = s.cstate := by unfold State.requestReset; rfl
@[simp] theorem State.requestReset_testeeLimit (s : State) :
    (s.requestReset).testeeLimit = s.testeeLimit := by unfold State.requestReset; rfl
@[simp] theorem State.requestReset_result (s : State) :
    (s.requestReset).result = s.result := by unfold State.requestReset; rfl
@[simp] theorem State.requestReset_events (s : State) :
    (s.requestReset).events = s.events := by unfold State.requestReset; rfl
@[simp] theorem State.requestReset_rngCalls (s : State) :
    (s.requestReset).rngCalls = s.rngCalls := by unfold State.requestReset; rfl
@[simp] theorem State.requestReset_freeDraws (s : State) :
    (s.requestReset).freeDraws = s.freeDraws := by unfold State.requestReset; rfl

/-! #### `State.requestSetPc` -/

@[simp] theorem State.requestSetPc_protocol (s : State) :
    (s.requestSetPc).protocol = s.protocol := by unfold State.requestSetPc; rfl
@[simp] theorem State.requestSetPc_expRootEnabled (s : State) :
    (s.requestSetPc).expRootEnabled = s.expRootEnabled := by unfold State.requestSetPc; rfl
@[simp] theorem State.requestSetPc_main (s : State) :
    (s.requestSetPc).main = s.main := by unfold State.requestSetPc; rfl
@[simp] theorem State.requestSetPc_testee (s : State) :
    (s.requestSetPc).testee = { s.testee with pc := s.main.reg 1 } := by unfold State.requestSetPc; rfl
@[simp] theorem State.requestSetPc_players (s : State) :
    (s.requestSetPc).players = s.players := by unfold State.requestSetPc; rfl
@[simp] theorem State.requestSetPc_cstate (s : State) :
    (s.requestSetPc).cstate = s.cstate := by unfold State.requestSetPc; rfl
@[simp] theorem State.requestSetPc_testeeLimit (s : State) :
    (s.requestSetPc).testeeLimit = s.testeeLimit := by unfold State.requestSetPc; rfl
@[simp] theorem State.requestSetPc_result (s : State) :
    (s.requestSetPc).result = s.result := by unfold State.requestSetPc; rfl
@[simp] theorem State.requestSetPc_events (s : State) :
    (s.requestSetPc).events = s.events := by unfold State.requestSetPc; rfl
@[simp] theorem State.requestSetPc_rngCalls (s : State) :
    (s.requestSetPc).rngCalls = s.rngCalls := by unfold State.requestSetPc; rfl
@[simp] theorem State.requestSetPc_freeDraws (s : State) :
    (s.requestSetPc).freeDraws = s.freeDraws := by unfold State.requestSetPc; rfl

/-! #### `State.payTurn` -/

@[simp] theorem State.payTurn_protocol (s : State) (p : Nat) (a : Count) :
    (s.payTurn p a).protocol = s.protocol := by unfold State.payTurn; rfl
@[simp] theorem State.payTurn_expRootEnabled (s : State) (p : Nat) (a : Count) :
    (s.payTurn p a).expRootEnabled = s.expRootEnabled := by unfold State.payTurn; rfl
@[simp] theorem State.payTurn_main (s : State) (p : Nat) (a : Count) :
    (s.payTurn p a).main = { s.main with
      budget := s.main.budget - (a - (s.vm (.player p)).budget)
      dmem := judgeDataAfter s.main.dmem (s.vm (.player p)) } :=
  by unfold State.payTurn; rfl
@[simp] theorem State.payTurn_testee (s : State) (p : Nat) (a : Count) :
    (s.payTurn p a).testee = s.testee := by unfold State.payTurn; rfl
@[simp] theorem State.payTurn_players (s : State) (p : Nat) (a : Count) :
    (s.payTurn p a).players = s.players := by unfold State.payTurn; rfl
@[simp] theorem State.payTurn_cstate (s : State) (p : Nat) (a : Count) :
    (s.payTurn p a).cstate = .runDriver := by unfold State.payTurn; rfl
@[simp] theorem State.payTurn_testeeLimit (s : State) (p : Nat) (a : Count) :
    (s.payTurn p a).testeeLimit = s.testeeLimit := by unfold State.payTurn; rfl
@[simp] theorem State.payTurn_result (s : State) (p : Nat) (a : Count) :
    (s.payTurn p a).result = s.result := by unfold State.payTurn; rfl
@[simp] theorem State.payTurn_events (s : State) (p : Nat) (a : Count) :
    (s.payTurn p a).events = s.events := by unfold State.payTurn; rfl
@[simp] theorem State.payTurn_rngCalls (s : State) (p : Nat) (a : Count) :
    (s.payTurn p a).rngCalls = s.rngCalls := by unfold State.payTurn; rfl
@[simp] theorem State.payTurn_freeDraws (s : State) (p : Nat) (a : Count) :
    (s.payTurn p a).freeDraws = s.freeDraws + 1 := by unfold State.payTurn; rfl

/-! #### Access transactions -/

@[simp] theorem State.access_protocol (s : State) (x : Access) :
    (s.access x).protocol = s.protocol := by
  cases x <;> simp [State.access]
@[simp] theorem State.accessAll_protocol (s : State) (l : List Access) :
    (s.accessAll l).protocol = s.protocol := by
  induction l generalizing s with
  | nil => rfl
  | cons x l ih => exact (ih _).trans (State.access_protocol s x)
@[simp] theorem State.endTurnWith_protocol (s : State) (p : Nat) (a : Count) (o : RunOutcome) (l : List Access) :
    (s.endTurnWith p a o l).protocol = (s.payTurn p a).protocol :=
  State.accessAll_protocol _ _
@[simp] theorem State.access_expRootEnabled (s : State) (x : Access) :
    (s.access x).expRootEnabled = s.expRootEnabled := by
  cases x <;> simp [State.access]
@[simp] theorem State.accessAll_expRootEnabled (s : State) (l : List Access) :
    (s.accessAll l).expRootEnabled = s.expRootEnabled := by
  induction l generalizing s with
  | nil => rfl
  | cons x l ih => exact (ih _).trans (State.access_expRootEnabled s x)
@[simp] theorem State.endTurnWith_expRootEnabled (s : State) (p : Nat) (a : Count) (o : RunOutcome) (l : List Access) :
    (s.endTurnWith p a o l).expRootEnabled = (s.payTurn p a).expRootEnabled :=
  State.accessAll_expRootEnabled _ _
@[simp] theorem State.access_cstate (s : State) (x : Access) :
    (s.access x).cstate = s.cstate := by
  cases x <;> simp [State.access]
@[simp] theorem State.accessAll_cstate (s : State) (l : List Access) :
    (s.accessAll l).cstate = s.cstate := by
  induction l generalizing s with
  | nil => rfl
  | cons x l ih => exact (ih _).trans (State.access_cstate s x)
@[simp] theorem State.endTurnWith_cstate (s : State) (p : Nat) (a : Count) (o : RunOutcome) (l : List Access) :
    (s.endTurnWith p a o l).cstate = (s.payTurn p a).cstate :=
  State.accessAll_cstate _ _
@[simp] theorem State.access_testeeLimit (s : State) (x : Access) :
    (s.access x).testeeLimit = s.testeeLimit := by
  cases x <;> simp [State.access]
@[simp] theorem State.accessAll_testeeLimit (s : State) (l : List Access) :
    (s.accessAll l).testeeLimit = s.testeeLimit := by
  induction l generalizing s with
  | nil => rfl
  | cons x l ih => exact (ih _).trans (State.access_testeeLimit s x)
@[simp] theorem State.endTurnWith_testeeLimit (s : State) (p : Nat) (a : Count) (o : RunOutcome) (l : List Access) :
    (s.endTurnWith p a o l).testeeLimit = (s.payTurn p a).testeeLimit :=
  State.accessAll_testeeLimit _ _
@[simp] theorem State.access_result (s : State) (x : Access) :
    (s.access x).result = s.result := by
  cases x <;> simp [State.access]
@[simp] theorem State.accessAll_result (s : State) (l : List Access) :
    (s.accessAll l).result = s.result := by
  induction l generalizing s with
  | nil => rfl
  | cons x l ih => exact (ih _).trans (State.access_result s x)
@[simp] theorem State.endTurnWith_result (s : State) (p : Nat) (a : Count) (o : RunOutcome) (l : List Access) :
    (s.endTurnWith p a o l).result = (s.payTurn p a).result :=
  State.accessAll_result _ _
@[simp] theorem State.access_events (s : State) (x : Access) :
    (s.access x).events = s.events := by
  cases x <;> simp [State.access]
@[simp] theorem State.accessAll_events (s : State) (l : List Access) :
    (s.accessAll l).events = s.events := by
  induction l generalizing s with
  | nil => rfl
  | cons x l ih => exact (ih _).trans (State.access_events s x)
@[simp] theorem State.endTurnWith_events (s : State) (p : Nat) (a : Count) (o : RunOutcome) (l : List Access) :
    (s.endTurnWith p a o l).events = (s.payTurn p a).events :=
  State.accessAll_events _ _
@[simp] theorem State.access_rngCalls (s : State) (x : Access) :
    (s.access x).rngCalls = s.rngCalls := by
  cases x <;> simp [State.access]
@[simp] theorem State.accessAll_rngCalls (s : State) (l : List Access) :
    (s.accessAll l).rngCalls = s.rngCalls := by
  induction l generalizing s with
  | nil => rfl
  | cons x l ih => exact (ih _).trans (State.access_rngCalls s x)
@[simp] theorem State.endTurnWith_rngCalls (s : State) (p : Nat) (a : Count) (o : RunOutcome) (l : List Access) :
    (s.endTurnWith p a o l).rngCalls = (s.payTurn p a).rngCalls :=
  State.accessAll_rngCalls _ _
@[simp] theorem State.access_freeDraws (s : State) (x : Access) :
    (s.access x).freeDraws = s.freeDraws := by
  cases x <;> simp [State.access]
@[simp] theorem State.accessAll_freeDraws (s : State) (l : List Access) :
    (s.accessAll l).freeDraws = s.freeDraws := by
  induction l generalizing s with
  | nil => rfl
  | cons x l ih => exact (ih _).trans (State.access_freeDraws s x)
@[simp] theorem State.endTurnWith_freeDraws (s : State) (p : Nat) (a : Count) (o : RunOutcome) (l : List Access) :
    (s.endTurnWith p a o l).freeDraws = (s.payTurn p a).freeDraws :=
  State.accessAll_freeDraws _ _
@[simp] theorem State.access_playersLength (s : State) (x : Access) :
    (s.access x).players.length = s.players.length := by
  cases x <;> simp [State.access]
@[simp] theorem State.accessAll_playersLength (s : State) (l : List Access) :
    (s.accessAll l).players.length = s.players.length := by
  induction l generalizing s with
  | nil => rfl
  | cons x l ih => exact (ih _).trans (State.access_playersLength s x)
@[simp] theorem State.endTurnWith_playersLength (s : State) (p : Nat) (a : Count) (o : RunOutcome) (l : List Access) :
    (s.endTurnWith p a o l).players.length = (s.payTurn p a).players.length :=
  State.accessAll_playersLength _ _

/-- A turn's end with a JUDGE_R that does nothing: the judge has paid and is told, and nothing else happens (R953). -/
theorem State.endTurnWith_nil (s : State) (p : Nat) (a : Count) (o : RunOutcome) :
    s.endTurnWith p a o [] = { s.payTurn p a with main := (s.payTurn p a).main.tellOutcome o } := rfl

/-- However JUDGE_R acts, the judge is told the outcome last (R953). -/
theorem State.endTurnWith_main (s : State) (p : Nat) (a : Count) (o : RunOutcome) (l : List Access) :
    (s.endTurnWith p a o l).main = ((s.payTurn p a).accessAll l).main.tellOutcome o := rfl


/-! ### What a dispatch can do -/

/-- Everything a test driver's dispatch can do (65_coordination.md R910, R921): the run ends, the testee's run begins,
the limit changes, or one of the other requests is applied and the driver is next. -/
theorem dispatchRequest_cases (s : State) :
    (∃ o, s.dispatchRequest = s.finish o) ∨ (s.main.reg 0 = 1 ∧ s.dispatchRequest = s.beginTestee) ∨
    (s.main.reg 0 = 8 ∧ s.main.limitOperand ≠ 0 ∧
      s.dispatchRequest = State.toDriver { s with testeeLimit := some s.main.limitOperand }) ∨
    (∃ t, s.dispatchRequest = t.toDriver ∧ (t = s.requestRegs ∨ t = s.requestWriteData ∨
      t = s.requestReadData ∨ t = s.requestReadInstr ∨ t = s.requestReset ∨ t = s.requestSetPc)) := by
  have of (n : Nat) (hn : n < 65536) (h : (s.main.reg 0).toNat = n) : s.main.reg 0 = BitVec.ofNat 16 n :=
    BitVec.eq_of_toNat_eq (by rw [h, BitVec.toNat_ofNat, Nat.mod_eq_of_lt hn])
  unfold State.dispatchRequest
  split
  · exact .inl ⟨_, rfl⟩
  split
  · exact .inr (.inl ⟨of 1 (by decide) (by assumption), rfl⟩)
  · left
    unfold State.requestDone
    dsimp only
    split
    · exact ⟨_, rfl⟩
    · exact ⟨_, rfl⟩
  · exact .inr (.inr (.inr ⟨_, rfl, .inl rfl⟩))
  · exact .inr (.inr (.inr ⟨_, rfl, .inr (.inl rfl)⟩))
  · exact .inr (.inr (.inr ⟨_, rfl, .inr (.inr (.inl rfl))⟩))
  · exact .inr (.inr (.inr ⟨_, rfl, .inr (.inr (.inr (.inl rfl)))⟩))
  · exact .inr (.inr (.inr ⟨_, rfl, .inr (.inr (.inr (.inr (.inl rfl))))⟩))
  · unfold State.requestLimit
    split
    · exact .inl ⟨_, rfl⟩
    · exact .inr (.inr (.inl ⟨of 8 (by decide) (by assumption), by assumption, rfl⟩))
  · exact .inr (.inr (.inr ⟨_, rfl, .inr (.inr (.inr (.inr (.inr rfl))))⟩))
  · exact .inl ⟨_, rfl⟩

/-- Everything a judge's dispatch can do (65_coordination.md R952, R953): the run ends, or a turn of an existing player
begins. -/
theorem dispatchJudge_cases (s : State) :
    (∃ o, s.dispatchJudge = s.finish o) ∨
    (∃ p, (s.main.reg 0).toNat = p ∧ p < s.players.length ∧
      s.dispatchJudge = { s.setVm (.player p) (s.loadedPlayer p) with cstate := .runPlayer p s.playerAllowance }) := by
  unfold State.dispatchJudge State.beginTurn
  split
  · exact .inl ⟨_, rfl⟩
  split
  · exact .inl ⟨_, rfl⟩
  split
  · split
    · split
      · exact .inl ⟨_, rfl⟩
      · exact .inr ⟨_, rfl, by assumption, rfl⟩
    · exact .inl ⟨_, rfl⟩
  · exact .inl ⟨_, rfl⟩

end Sys2Proof.Machine
end

