-- ==== Sys2Proof/Laws/Decode.lean ====
section
/-! SUPPORT. The fields of the words the encoder builds: the bridge from `encode` to `decode` (spec/30_encoding.md
R302). -/

namespace Sys2Proof

@[simp] theorem opField_rrWord (op f hi lo : BitVec 4) : opField (rrWord op f hi lo) = op := by
  ext i hi'; simp [opField, rrWord]; grind
@[simp] theorem fField_rrWord (op f hi lo : BitVec 4) : fField (rrWord op f hi lo) = f := by
  ext i hi'; simp [fField, rrWord]; grind
@[simp] theorem hiField_rrWord (op f hi lo : BitVec 4) : hiField (rrWord op f hi lo) = hi := by
  ext i hi'; simp [hiField, rrWord]; grind
@[simp] theorem loField_rrWord (op f hi lo : BitVec 4) : loField (rrWord op f hi lo) = lo := by
  ext i hi'; simp [loField, rrWord]; grind

@[simp] theorem opField_ri8Word (op f : BitVec 4) (imm : BitVec 8) : opField (ri8Word op f imm) = op := by
  ext i hi'; simp [opField, ri8Word]; grind
@[simp] theorem fField_ri8Word (op f : BitVec 4) (imm : BitVec 8) : fField (ri8Word op f imm) = f := by
  ext i hi'; simp [fField, ri8Word]; grind
@[simp] theorem imm8Field_ri8Word (op f : BitVec 4) (imm : BitVec 8) : imm8Field (ri8Word op f imm) = imm := by
  ext i hi'; simp [imm8Field, ri8Word]; grind

@[simp] theorem opField_i12Word (op : BitVec 4) (imm : BitVec 12) : opField (i12Word op imm) = op := by
  ext i hi'; simp [opField, i12Word]; grind
@[simp] theorem imm12Field_i12Word (op : BitVec 4) (imm : BitVec 12) : imm12Field (i12Word op imm) = imm := by
  ext i hi'; simp [imm12Field, i12Word]; grind

/-- The compare flags stand in bits 11 to 8 of a word of format CMP (R316). -/
theorem flagBits_rrWord (op hi lo : BitVec 4) (l e g sg : Bool) :
    (rrWord op (flagNibble l e g sg) hi lo).getLsbD 11 = l ∧ (rrWord op (flagNibble l e g sg) hi lo).getLsbD 10 = e ∧
      (rrWord op (flagNibble l e g sg) hi lo).getLsbD 9 = g ∧ (rrWord op (flagNibble l e g sg) hi lo).getLsbD 8 = sg := by
  refine ⟨?_, ?_, ?_, ?_⟩ <;> simp only [rrWord, flagNibble, BitVec.getLsbD_append] <;> simp

end Sys2Proof
end

