-- ==== Sys2Proof/Laws/Memory.lean ====
section
/-! SUPPORT. Laws of a segment: what a byte and a word read as after a write, and that every operation on a segment
keeps the canonical form (spec/20_memory.md R212, R221). -/

namespace Sys2Proof.Machine

/-! ### Bytes -/

theorem Memory.readByte_consCell (a : Nat) (v : Byte) (m : Memory) (b : Nat) (h : m.readByte a = unlistedByte) :
    (Memory.consCell a v m).readByte b = if a = b then v else m.readByte b := by
  unfold Memory.consCell
  split
  · next hv =>
    split
    · next hab => rw [← hab, h, hv]
    · rfl
  · rfl

/-- A byte below every listed address is unlisted. -/
theorem Memory.readByte_below {lo : Nat} {m : Memory} (h : Memory.wfFrom lo m = true) {a : Nat} (ha : a < lo) :
    m.readByte a = unlistedByte := by
  induction m generalizing lo with
  | nil => rfl
  | cons c m ih =>
    obtain ⟨k, v⟩ := c
    simp only [Memory.wfFrom, Bool.and_eq_true, decide_eq_true_eq] at h
    have hk : k ≠ a := by omega
    simp only [Memory.readByte, hk, if_false]
    exact ih h.2 (by omega)

theorem Memory.wfFrom_mono {lo lo' : Nat} {m : Memory} (h : Memory.wfFrom lo m = true) (hle : lo' ≤ lo) :
    Memory.wfFrom lo' m = true := by
  cases m with
  | nil => rfl
  | cons c m =>
    obtain ⟨k, v⟩ := c
    simp only [Memory.wfFrom, Bool.and_eq_true, decide_eq_true_eq] at h ⊢
    exact ⟨⟨⟨by omega, h.1.1.2⟩, h.1.2⟩, h.2⟩

theorem Memory.wfFrom_consCell {lo a : Nat} {v : Byte} {m : Memory} (hm : Memory.wfFrom (a + 1) m = true)
    (hlo : lo ≤ a) (ha : a < segmentBytes) : Memory.wfFrom lo (Memory.consCell a v m) = true := by
  unfold Memory.consCell
  split
  · exact Memory.wfFrom_mono hm (by omega)
  · next hv => simp [Memory.wfFrom, hlo, ha, hv, hm]

/-- A write of one byte keeps the canonical form. -/
theorem Memory.wfFrom_writeByte {lo : Nat} {m : Memory} (h : Memory.wfFrom lo m = true) {a : Nat} (hlo : lo ≤ a)
    (ha : a < segmentBytes) (v : Byte) : Memory.wfFrom lo (m.writeByte a v) = true := by
  induction m generalizing lo with
  | nil => exact Memory.wfFrom_consCell rfl hlo ha
  | cons c m ih =>
    obtain ⟨k, u⟩ := c
    simp only [Memory.wfFrom, Bool.and_eq_true, decide_eq_true_eq] at h
    obtain ⟨⟨⟨hk, hks⟩, hu⟩, hm⟩ := h
    unfold Memory.writeByte
    split
    · next hlt =>
      refine Memory.wfFrom_consCell ?_ hlo ha
      simp only [Memory.wfFrom, Bool.and_eq_true, decide_eq_true_eq]
      exact ⟨⟨⟨by omega, hks⟩, hu⟩, hm⟩
    · split
      · next heq => exact Memory.wfFrom_consCell (heq ▸ hm) hlo ha
      · simp only [Memory.wfFrom, Bool.and_eq_true, decide_eq_true_eq]
        exact ⟨⟨⟨hk, hks⟩, hu⟩, ih hm (by omega)⟩

/-- A byte after a write of one byte: the value written, or what was there. -/
theorem Memory.readByte_writeByte {lo : Nat} {m : Memory} (h : Memory.wfFrom lo m = true) (a : Nat) (v : Byte)
    (b : Nat) : (m.writeByte a v).readByte b = if a = b then v else m.readByte b := by
  induction m generalizing lo with
  | nil => exact Memory.readByte_consCell a v [] b rfl
  | cons c m ih =>
    obtain ⟨k, u⟩ := c
    simp only [Memory.wfFrom, Bool.and_eq_true, decide_eq_true_eq] at h
    obtain ⟨⟨⟨hk, hks⟩, hu⟩, hm⟩ := h
    unfold Memory.writeByte
    split
    · next hlt =>
      refine Memory.readByte_consCell a v _ b ?_
      have hne : k ≠ a := by omega
      simp only [Memory.readByte, hne, if_false]
      exact Memory.readByte_below hm (by omega)
    · split
      · next heq =>
        rw [Memory.readByte_consCell a v m b (Memory.readByte_below hm (by omega))]
        subst heq
        by_cases hab : a = b <;> simp [Memory.readByte, hab]
      · next hlt hne =>
        simp only [Memory.readByte, ih hm]
        by_cases hkb : k = b
        · have : a ≠ b := by omega
          simp [hkb, this]
        · simp [hkb]

/-! ### Words -/

theorem byteAddr_lt (a : Word) : byteAddr a + 1 < segmentBytes := by
  have := a.isLt
  unfold byteAddr segmentBytes
  omega

theorem Memory.wf_writeByte {m : Memory} (h : m.wf = true) {a : Nat} (ha : a < segmentBytes) (v : Byte) :
    (m.writeByte a v).wf = true := Memory.wfFrom_writeByte h (Nat.zero_le a) ha v

/-- A write of one word keeps the canonical form. -/
theorem Memory.wf_writeWord {m : Memory} (h : m.wf = true) (a v : Word) : (m.writeWord a v).wf = true := by
  have ha := byteAddr_lt a
  exact Memory.wf_writeByte (Memory.wf_writeByte h (by omega) _) ha _

/-- A byte after a write of one word: one of the two bytes written, or what was there (R221). -/
theorem Memory.readByte_writeWord {m : Memory} (h : m.wf = true) (a v : Word) (b : Nat) :
    (m.writeWord a v).readByte b =
      if byteAddr a + 1 = b then v.extractLsb' 0 8
      else if byteAddr a = b then v.extractLsb' 8 8
      else m.readByte b := by
  have ha := byteAddr_lt a
  unfold Memory.writeWord
  rw [Memory.readByte_writeByte (Memory.wf_writeByte h (by omega) _), Memory.readByte_writeByte h]

theorem Memory.append_bytes (v : Word) : (v.extractLsb' 8 8 ++ v.extractLsb' 0 8 : Word) = v := by
  refine BitVec.eq_of_getLsbD_eq fun i hi => ?_
  simp only [BitVec.getLsbD_append, BitVec.getLsbD_extractLsb', Nat.zero_add]
  by_cases h8 : i < 8
  · simp [h8]
  · simp only [h8, decide_false]
    rw [show 8 + (i - 8) = i by omega]
    simp [show i - 8 < 8 by omega]

/-- Reading the word just written (R212). -/
theorem Memory.readWord_writeWord_same {m : Memory} (h : m.wf = true) (a v : Word) :
    (m.writeWord a v).readWord a = v := by
  unfold Memory.readWord
  rw [Memory.readByte_writeWord h, Memory.readByte_writeWord h]
  simp [Memory.append_bytes]

/-- A write leaves every other word as it was (R212). -/
theorem Memory.readWord_writeWord_ne {m : Memory} (h : m.wf = true) {a b : Word} (hab : a ≠ b) (v : Word) :
    (m.writeWord a v).readWord b = m.readWord b := by
  have hn : a.toNat ≠ b.toNat := fun e => hab (BitVec.eq_of_toNat_eq e)
  unfold Memory.readWord
  rw [Memory.readByte_writeWord h, Memory.readByte_writeWord h]
  unfold byteAddr
  simp only [show ¬(2 * a.toNat + 1 = 2 * b.toNat) by omega, show ¬(2 * a.toNat = 2 * b.toNat) by omega,
    show ¬(2 * a.toNat + 1 = 2 * b.toNat + 1) by omega, show ¬(2 * a.toNat = 2 * b.toNat + 1) by omega, if_false]

/-! ### Sequences of writes, copies and images keep the canonical form -/

theorem Memory.wf_writeWords {m : Memory} (h : m.wf = true) (l : List (Word × Word)) : (m.writeWords l).wf = true := by
  induction l generalizing m with
  | nil => exact h
  | cons p l ih => exact ih (Memory.wf_writeWord h p.1 p.2)

theorem Memory.wf_copy {m : Memory} (h : m.wf = true) (da : Word) (src : Memory) (sa : Word) (n : Nat) :
    (m.copy da src sa n).wf = true := Memory.wf_writeWords h _

theorem Memory.wf_writeRegs {m : Memory} (h : m.wf = true) (off : Word) (x : Vector Word 16) :
    (m.writeRegs off x).wf = true := Memory.wf_writeWords h _

theorem Memory.writeWords_append (m : Memory) (l k : List (Word × Word)) :
    m.writeWords (l ++ k) = (m.writeWords l).writeWords k := by
  induction l generalizing m with
  | nil => rfl
  | cons p l ih => exact ih _

/-- Words written to consecutive addresses, read back: at most one segment's worth, so no address twice. -/
theorem Memory.readWord_writeWords {m : Memory} (h : m.wf = true) (start : Word) (f : Nat → Word) {n : Nat}
    (hn : n ≤ 65536) :
    (∀ j, j < n → (m.writeWords ((List.range n).map fun j => (start + BitVec.ofNat 16 j, f j))).readWord
      (start + BitVec.ofNat 16 j) = f j) ∧
    ∀ a, (∀ j, j < n → a ≠ start + BitVec.ofNat 16 j) →
      (m.writeWords ((List.range n).map fun j => (start + BitVec.ofNat 16 j, f j))).readWord a = m.readWord a := by
  induction n with
  | zero => exact ⟨fun j hj => absurd hj (Nat.not_lt_zero j), fun _ _ => rfl⟩
  | succ n ih =>
    obtain ⟨hin, hout⟩ := ih (by omega)
    have hwf := Memory.wf_writeWords h ((List.range n).map fun j => (start + BitVec.ofNat 16 j, f j))
    rw [List.range_succ, List.map_append, Memory.writeWords_append]
    refine ⟨fun j hj => ?_, fun a ha => ?_⟩
    · by_cases hjn : j = n
      · subst hjn
        exact Memory.readWord_writeWord_same hwf _ _
      · have hne : start + BitVec.ofNat 16 n ≠ start + BitVec.ofNat 16 j := by
          intro he
          have := congrArg BitVec.toNat (BitVec.add_right_inj start |>.mp he)
          simp only [BitVec.toNat_ofNat] at this
          omega
        exact (Memory.readWord_writeWord_ne hwf hne _).trans (hin j (by omega))
    · exact (Memory.readWord_writeWord_ne hwf (Ne.symm (ha n (by omega))) _).trans
        (hout a fun j hj => ha j (by omega))

/-- What a copy can do, read back: the words `da, da + 1, …` take the words `sa, sa + 1, …` of the source, every other
word is as before; both ranges wrap (65_coordination.md R925). -/
theorem Memory.readWord_copy {m : Memory} (h : m.wf = true) (da : Word) (src : Memory) (sa : Word) {n : Nat}
    (hn : n ≤ 65536) :
    (∀ j, j < n → (m.copy da src sa n).readWord (da + BitVec.ofNat 16 j) = src.readWord (sa + BitVec.ofNat 16 j)) ∧
    ∀ a, (∀ j, j < n → a ≠ da + BitVec.ofNat 16 j) → (m.copy da src sa n).readWord a = m.readWord a := by
  have hcopy : ∀ k, m.copy da src sa k =
      m.writeWords ((List.range k).map fun j => (da + BitVec.ofNat 16 j, src.readWord (sa + BitVec.ofNat 16 j))) := by
    intro k
    rw [Memory.copy, wrapRange, wrapRange, List.map_map, List.zip_map']
    rfl
  rw [hcopy]
  exact Memory.readWord_writeWords h da (fun j => src.readWord (sa + BitVec.ofNat 16 j)) hn

/-- What a write-back of the registers can do, read back (65_coordination.md R933, R953). -/
theorem Memory.readWord_writeRegs {m : Memory} (h : m.wf = true) (off : Word) (x : Vector Word 16) :
    (∀ i : Fin 16, (m.writeRegs off x).readWord (off + BitVec.ofNat 16 i) = x[i]) ∧
    ∀ a, (∀ i : Fin 16, a ≠ off + BitVec.ofNat 16 i) → (m.writeRegs off x).readWord a = m.readWord a := by
  have hregs : m.writeRegs off x =
      m.writeWords ((List.range 16).map fun j => (off + BitVec.ofNat 16 j, x.toList.getD j 0)) := by
    have hx : x.toList = (List.range 16).map fun j => x.toList.getD j 0 :=
      List.ext_getElem (by simp) (by intro i h1 h2; simp at h1; simp [h1])
    rw [Memory.writeRegs, wrapRange]
    conv_lhs => rw [hx]
    rw [List.zip_map']
  rw [hregs]
  obtain ⟨hin, hout⟩ := Memory.readWord_writeWords h off (fun j => x.toList.getD j 0) (n := 16) (by decide)
  refine ⟨fun i => ?_, fun a ha => hout a fun j hj => ha ⟨j, hj⟩⟩
  rw [hin i i.isLt]
  simp

theorem scatter_wf (judge : Memory) (l : List Descriptor) {player : Memory} (h : player.wf = true) :
    (scatter judge player l).wf = true := by
  induction l generalizing player with
  | nil => exact h
  | cons d l ih => exact ih (Memory.wf_copy h _ _ _ _)

theorem gather_wf (player : Memory) (l : List Descriptor) {judge : Memory} (h : judge.wf = true) :
    (gather player judge l).wf = true := by
  induction l generalizing judge with
  | nil => exact h
  | cons d l ih => exact ih (Memory.wf_copy h _ _ _ _)

theorem judgeDataAfter_wf {judge : Memory} (h : judge.wf = true) (player : Vm) :
    (judgeDataAfter judge player).wf = true := Memory.wf_writeRegs (gather_wf _ _ h) _ _

theorem Memory.wfFrom_ofImageFrom (image : List Byte) (a : Nat) (h : a + image.length ≤ segmentBytes) :
    Memory.wfFrom a (Memory.ofImageFrom a image) = true := by
  induction image generalizing a with
  | nil => rfl
  | cons v rest ih =>
    simp only [List.length_cons] at h
    exact Memory.wfFrom_consCell (ih (a + 1) (by omega)) (Nat.le_refl a) (by omega)

/-- A loaded image is in canonical form (R231). -/
theorem Memory.wf_ofImage {image : List Byte} (h : image.length ≤ segmentBytes) : (Memory.ofImage image).wf = true :=
  Memory.wfFrom_ofImageFrom image 0 (by omega)

/-- The empty segment, which reads as 0 everywhere, is in canonical form. -/
theorem Memory.wf_nil : Memory.wf [] = true := rfl

/-- The memory of the reset state is in canonical form. -/
theorem reset_memory_wf : State.reset.main.imem.wf = true ∧ State.reset.main.dmem.wf = true ∧
    State.reset.testee.imem.wf = true ∧ State.reset.testee.dmem.wf = true := ⟨rfl, rfl, rfl, rfl⟩

@[simp] theorem Memory.readByte_nil (a : Nat) : Memory.readByte [] a = 0 := rfl

@[simp] theorem Memory.readWord_nil (a : Word) : Memory.readWord [] a = 0 := by
  simp [Memory.readWord]

end Sys2Proof.Machine
end

