-- ==== Sys2Proof/Laws/Exec.lean ====
section
/-! SUPPORT. What the execute phase and a core's step can do, said once: every proof about all instructions starts from
`exec_shape` and `stepCore_cases` instead of unfolding the meanings. -/

namespace Sys2Proof.Machine

/-- The executing core replaced leaves every other core, the coordinator and the fixed data alone. -/
theorem othersKept_setCur (s : State) (c : Vm) : s.OthersKept (s.setCur c) := by
  refine ⟨by simp, by simp, by simp, by simp, by simp, ?_, ?_, ?_, ?_⟩ <;>
    unfold State.setCur State.setVm <;> cases s.agent <;> intros <;> simp_all
  all_goals split <;> simp_all

/-- The same where a result is reported as well. -/
theorem othersKept_report (s t : State) (r : StepResult) (h : s.OthersKept t) : s.OthersKept (t.report r) := h

/-- What `x[0] .. x[3]` written together leaves of the rest of a core. -/
@[simp] theorem Vm.setRegs03_rest (c : Vm) (v0 v1 v2 v3 : Word) :
    (c.setRegs03 v0 v1 v2 v3).imem = c.imem ∧ (c.setRegs03 v0 v1 v2 v3).dmem = c.dmem ∧
      (c.setRegs03 v0 v1 v2 v3).pc = c.pc ∧ (c.setRegs03 v0 v1 v2 v3).counter = c.counter ∧
      (c.setRegs03 v0 v1 v2 v3).budget = c.budget ∧ (c.setRegs03 v0 v1 v2 v3).status = c.status ∧
      (c.setRegs03 v0 v1 v2 v3).yieldLatch = c.yieldLatch := ⟨rfl, rfl, rfl, rfl, rfl, rfl, rfl⟩

/-- The registers after `x[0] .. x[3]` are written together. -/
theorem Vm.reg_setRegs03 (c : Vm) (v0 v1 v2 v3 : Word) (r : Reg) :
    (c.setRegs03 v0 v1 v2 v3).reg r =
      if r = 3 then v3 else if r = 2 then v2 else if r = 1 then v1 else if r = 0 then v0 else c.reg r := by
  simp only [Vm.setRegs03, Vm.reg_setReg]

/-- Everything an instruction can do: it answers next; only the executing core, the reported result and the model's
port fields change; IMEM stays; DMEM keeps its form; an Illegal word halts and changes nothing else, any other
instruction retires. -/
theorem exec_shape (i : Instr) (s : State) :
    ∃ (c : Vm) (ev : List DebugEvent) (n m : Nat) (r : StepResult),
      exec i s = .next ((State.setCur { s with events := ev, rngCalls := n, freeDraws := m } c).report r) ∧
      c.imem = s.cur.imem ∧ (s.cur.dmem.wf = true → c.dmem.wf = true) ∧
      ((i.isIllegal = true ∧ c = { s.cur with status := .haltedIllegal } ∧ r = .illegalInstruction) ∨
        (i.isIllegal = false ∧ c.counter = s.cur.counter + 1 ∧ c.budget = s.cur.budget - 1 ∧
          r.outcome ≠ some .illegalInstruction ∧ r ≠ .timeOut)) := by
  cases i
  case sw ra rv =>
    refine ⟨_, s.events, s.rngCalls, s.freeDraws, _, rfl, rfl, fun h => Memory.wf_writeWord h _ _,
      .inr ⟨rfl, rfl, rfl, ?_, ?_⟩⟩ <;> simp [StepResult.outcome]
  case debug => exact ⟨_, _, s.rngCalls, s.freeDraws, _, rfl, rfl, id, .inr ⟨rfl, rfl, rfl, nofun, nofun⟩⟩
  case rnd rs rd => exact ⟨_, s.events, _, s.freeDraws, _, rfl, rfl, id, .inr ⟨rfl, rfl, rfl, nofun, nofun⟩⟩
  case exps rs rd => exact ⟨_, s.events, s.rngCalls, _, _, rfl, rfl, id, .inr ⟨rfl, rfl, rfl, nofun, nofun⟩⟩
  case root rs rd => exact ⟨_, s.events, s.rngCalls, _, _, rfl, rfl, id, .inr ⟨rfl, rfl, rfl, nofun, nofun⟩⟩
  all_goals first
    | exact ⟨_, s.events, s.rngCalls, s.freeDraws, _, rfl, rfl, id, .inl ⟨rfl, rfl, rfl⟩⟩
    | exact ⟨_, s.events, s.rngCalls, s.freeDraws, _, rfl, rfl, id, .inr ⟨rfl, rfl, rfl, nofun, nofun⟩⟩

/-- Everything one step of a core can do (60_exceptions.md R801, R812). -/
theorem stepCore_cases (s : State) :
    (s.cur.status = .haltedIllegal ∧ stepCore s = .next (s.report .illegalInstruction)) ∨
    (s.cur.status = .suspended ∧ stepCore s = .next (s.report (.yield s.cur.yieldLatch))) ∨
    (s.cur.status = .running ∧ s.cur.budget = 0 ∧ stepCore s = .next (s.report .timeOut)) ∨
    (s.cur.status = .running ∧ s.cur.budget ≠ 0 ∧ stepCore s = exec s.fetch s) := by
  cases h : s.cur.status
  · by_cases hb : s.cur.budget = 0
    · exact .inr (.inr (.inl ⟨rfl, hb, by simp [stepCore, h, hb]⟩))
    · refine .inr (.inr (.inr ⟨rfl, hb, ?_⟩))
      simp only [stepCore, h]
      exact if_neg hb
  · exact .inr (.inl ⟨rfl, by simp [stepCore, h]⟩)
  · exact .inl ⟨rfl, by simp [stepCore, h]⟩

/-- One step of a core answers next. -/
theorem stepCore_next (s : State) : ∃ t, stepCore s = .next t := by
  rcases stepCore_cases s with ⟨_, h⟩ | ⟨_, h⟩ | ⟨_, _, h⟩ | ⟨_, _, h⟩
  · exact ⟨_, h⟩
  · exact ⟨_, h⟩
  · exact ⟨_, h⟩
  · obtain ⟨c, ev, n, m, r, he, -⟩ := exec_shape s.fetch s
    exact ⟨_, h.trans he⟩

/-- One step of a core leaves every other core, the coordinator and the fixed data alone. -/
theorem stepCore_othersKept {s t : State} (h : stepCore s = .next t) : s.OthersKept t := by
  rcases stepCore_cases s with ⟨_, h'⟩ | ⟨_, h'⟩ | ⟨_, _, h'⟩ | ⟨_, _, h'⟩ <;> rw [h'] at h
  · cases h; simp [State.OthersKept]
  · cases h; simp [State.OthersKept]
  · cases h; simp [State.OthersKept]
  · obtain ⟨c, ev, n, m, r, he, -⟩ := exec_shape s.fetch s
    rw [he] at h
    cases h
    exact othersKept_setCur { s with events := ev, rngCalls := n, freeDraws := m } c

/-- Resume of a core that is not SUSPENDED is no change at all. -/
theorem State.resume_eq_self {s : State} (h : s.cur.status ≠ .suspended) : s.resume = s := by
  have hc : s.cur.resume = s.cur := by unfold Vm.resume; split <;> simp_all
  rw [State.resume, hc]
  unfold State.setCur State.cur State.setVm State.vm
  cases s.agent with
  | main => rfl
  | testee => rfl
  | player p =>
    dsimp only
    split
    · rename_i hp
      have hset : s.players.set p (s.players.getD p s.main) = s.players := by simp [List.getD, hp]
      rw [hset]
    · rename_i hp
      simp [List.getD, hp]

/-- A word of the byte view is read from its two bytes: equal bytes give equal words. -/
theorem Memory.Same.readWord {m n : Memory} (h : m.Same n) (a : Word) : n.readWord a = m.readWord a := by
  unfold Memory.readWord
  rw [h, h]

end Sys2Proof.Machine
end

