-- ==== Sys2Proof/Laws/PerInstr.lean ====
section
/-! SUPPORT. Statements made per instruction. `TableForm`: the word of an instruction has the fixed bits that its row of
spec/opcode_table.json gives, so no operand value reaches a bit the row fixes. -/

namespace Sys2Proof.Laws

/-- The bits a row of spec/opcode_table.json fixes ("mask"). -/
def tableMask : Instr → Word
  | .ret => 0xFFFF
  | .cpuid => 0xFFFF
  | .debug => 0xFFFF
  | .time => 0xFFFF
  | .sw _ _ => 0xFF00
  | .lw _ _ => 0xFF00
  | .lwi _ _ => 0xFF00
  | .lb _ _ => 0xF000
  | .lhi _ _ => 0xF000
  | .not _ _ => 0xFF00
  | .popcnt _ _ => 0xFF00
  | .clz _ _ => 0xFF00
  | .ctz _ _ => 0xFF00
  | .rnd _ _ => 0xFF00
  | .mov _ _ => 0xFF00
  | .add _ _ => 0xFF00
  | .sub _ _ => 0xFF00
  | .mul _ _ => 0xFF00
  | .mulh _ _ => 0xFF00
  | .divu _ _ => 0xFF00
  | .divs _ _ => 0xFF00
  | .modu _ _ => 0xFF00
  | .mods _ _ => 0xFF00
  | .and _ _ => 0xFF00
  | .or _ _ => 0xFF00
  | .xor _ _ => 0xFF00
  | .shl _ _ => 0xFF00
  | .shru _ _ => 0xFF00
  | .shrs _ _ => 0xFF00
  | .exps _ _ => 0xFF00
  | .root _ _ => 0xFF00
  | .cmp _ _ _ _ _ _ => 0xF000
  | .b _ _ => 0xF000
  | .j _ => 0xF000
  | .jr _ _ => 0xF000
  | .illOp0 _ => 0xF000
  | .illOp1 _ => 0xF000
  | .illOp2_3 _ => 0xFF00
  | .illOp2_4 _ => 0xFF00
  | .illOp2_5 _ => 0xFF00
  | .illOp2_6 _ => 0xFF00
  | .illOp2_7 _ => 0xFF00
  | .illOp2_8 _ => 0xFF00
  | .illOp2_9 _ => 0xFF00
  | .illOp2_A _ => 0xFF00
  | .illOp2_B _ => 0xFF00
  | .illOp2_C _ => 0xFF00
  | .illOp2_D _ => 0xFF00
  | .illOp2_E _ => 0xFF00
  | .illOp2_F _ => 0xFF00
  | .illOp5_0 _ => 0xFF00
  | .illOp5_1 _ => 0xFF00
  | .illOp5_2 _ => 0xFF00
  | .illOp5_3 _ => 0xFF00
  | .illOp5_4 _ => 0xFF00
  | .illOp5_5 _ => 0xFF00
  | .illOp5_6 _ => 0xFF00
  | .illOp5_7 _ => 0xFF00
  | .illOp5_8 _ => 0xFF00
  | .illOp5_9 _ => 0xFF00
  | .illOp6_E _ => 0xFF00
  | .illOp6_F _ => 0xFF00
  | .illOp7 _ => 0xF000
  | .illOpC _ => 0xF000
  | .illOpD _ => 0xF000
  | .illOpE _ => 0xF000
  | .illOpF _ => 0xF000

/-- The value of the fixed bits ("match"). -/
def tableMatch : Instr → Word
  | .ret => 0x102A
  | .cpuid => 0x102B
  | .debug => 0x102C
  | .time => 0x102D
  | .sw _ _ => 0x2000
  | .lw _ _ => 0x2100
  | .lwi _ _ => 0x2200
  | .lb _ _ => 0x3000
  | .lhi _ _ => 0x4000
  | .not _ _ => 0x5A00
  | .popcnt _ _ => 0x5B00
  | .clz _ _ => 0x5C00
  | .ctz _ _ => 0x5D00
  | .rnd _ _ => 0x5E00
  | .mov _ _ => 0x5F00
  | .add _ _ => 0x6000
  | .sub _ _ => 0x6100
  | .mul _ _ => 0x6200
  | .mulh _ _ => 0x6300
  | .divu _ _ => 0x6400
  | .divs _ _ => 0x6500
  | .modu _ _ => 0x6600
  | .mods _ _ => 0x6700
  | .and _ _ => 0x6800
  | .or _ _ => 0x6900
  | .xor _ _ => 0x6A00
  | .shl _ _ => 0x6B00
  | .shru _ _ => 0x6C00
  | .shrs _ _ => 0x6D00
  | .exps _ _ => 0x6E00
  | .root _ _ => 0x6F00
  | .cmp _ _ _ _ _ _ => 0x8000
  | .b _ _ => 0x9000
  | .j _ => 0xA000
  | .jr _ _ => 0xB000
  | .illOp0 _ => 0x0000
  | .illOp1 _ => 0x1000
  | .illOp2_3 _ => 0x2300
  | .illOp2_4 _ => 0x2400
  | .illOp2_5 _ => 0x2500
  | .illOp2_6 _ => 0x2600
  | .illOp2_7 _ => 0x2700
  | .illOp2_8 _ => 0x2800
  | .illOp2_9 _ => 0x2900
  | .illOp2_A _ => 0x2A00
  | .illOp2_B _ => 0x2B00
  | .illOp2_C _ => 0x2C00
  | .illOp2_D _ => 0x2D00
  | .illOp2_E _ => 0x2E00
  | .illOp2_F _ => 0x2F00
  | .illOp5_0 _ => 0x5000
  | .illOp5_1 _ => 0x5100
  | .illOp5_2 _ => 0x5200
  | .illOp5_3 _ => 0x5300
  | .illOp5_4 _ => 0x5400
  | .illOp5_5 _ => 0x5500
  | .illOp5_6 _ => 0x5600
  | .illOp5_7 _ => 0x5700
  | .illOp5_8 _ => 0x5800
  | .illOp5_9 _ => 0x5900
  | .illOp6_E _ => 0x6E00
  | .illOp6_F _ => 0x6F00
  | .illOp7 _ => 0x7000
  | .illOpC _ => 0xC000
  | .illOpD _ => 0xD000
  | .illOpE _ => 0xE000
  | .illOpF _ => 0xF000

/-- The word of `i` has its row's fixed bits. -/
def TableForm.Statement (i : Instr) : Prop := encode i &&& tableMask i = tableMatch i

theorem and_nibble (x : BitVec 4) : x &&& 0xF#4 = x := BitVec.and_allOnes

theorem rrWord_and (op f hi lo : BitVec 4) : rrWord op f hi lo &&& 0xFF00 = rrWord op f 0 0 := by
  show (op ++ f ++ hi ++ lo : BitVec (4 + 4 + 4 + 4)) &&& (0xF#4 ++ 0xF#4 ++ 0#4 ++ 0#4) = op ++ f ++ 0#4 ++ 0#4
  rw [BitVec.and_append, BitVec.and_append, BitVec.and_append]
  simp [and_nibble]

theorem rrWord_andHigh (op f hi lo : BitVec 4) : rrWord op f hi lo &&& 0xF000 = rrWord op 0 0 0 := by
  show (op ++ f ++ hi ++ lo : BitVec (4 + 4 + 4 + 4)) &&& (0xF#4 ++ 0#4 ++ 0#4 ++ 0#4) = op ++ 0#4 ++ 0#4 ++ 0#4
  rw [BitVec.and_append, BitVec.and_append, BitVec.and_append]
  simp [and_nibble]

theorem ri8Word_and (op f : BitVec 4) (imm : BitVec 8) : ri8Word op f imm &&& 0xFF00 = ri8Word op f 0 := by
  show (op ++ f ++ imm : BitVec (4 + 4 + 8)) &&& (0xF#4 ++ 0xF#4 ++ 0#8) = op ++ f ++ 0#8
  rw [BitVec.and_append, BitVec.and_append]
  simp [and_nibble]

theorem ri8Word_andHigh (op f : BitVec 4) (imm : BitVec 8) : ri8Word op f imm &&& 0xF000 = ri8Word op 0 0 := by
  show (op ++ f ++ imm : BitVec (4 + 4 + 8)) &&& (0xF#4 ++ 0#4 ++ 0#8) = op ++ 0#4 ++ 0#8
  rw [BitVec.and_append, BitVec.and_append]
  simp [and_nibble]

theorem i12Word_and (op : BitVec 4) (imm : BitVec 12) : i12Word op imm &&& 0xF000 = i12Word op 0 := by
  show (op ++ imm : BitVec (4 + 12)) &&& (0xF#4 ++ 0#12) = op ++ 0#12
  rw [BitVec.and_append]
  simp [and_nibble]

namespace TableForm

theorem ret : Statement (.ret) := rfl
theorem cpuid : Statement (.cpuid) := rfl
theorem debug : Statement (.debug) := rfl
theorem time : Statement (.time) := rfl
theorem sw (a : Reg) (v : Reg) : Statement (.sw a v) := rrWord_and _ _ _ _
theorem lw (a : Reg) (d : Reg) : Statement (.lw a d) := rrWord_and _ _ _ _
theorem lwi (a : Reg) (d : Reg) : Statement (.lwi a d) := rrWord_and _ _ _ _
theorem lb (r : Reg) (imm8 : BitVec 8) : Statement (.lb r imm8) := ri8Word_andHigh _ _ _
theorem lhi (r : Reg) (imm8 : BitVec 8) : Statement (.lhi r imm8) := ri8Word_andHigh _ _ _
theorem not (s : Reg) (d : Reg) : Statement (.not s d) := rrWord_and _ _ _ _
theorem popcnt (s : Reg) (d : Reg) : Statement (.popcnt s d) := rrWord_and _ _ _ _
theorem clz (s : Reg) (d : Reg) : Statement (.clz s d) := rrWord_and _ _ _ _
theorem ctz (s : Reg) (d : Reg) : Statement (.ctz s d) := rrWord_and _ _ _ _
theorem rnd (s : Reg) (d : Reg) : Statement (.rnd s d) := rrWord_and _ _ _ _
theorem mov (s : Reg) (d : Reg) : Statement (.mov s d) := rrWord_and _ _ _ _
theorem add (s : Reg) (d : Reg) : Statement (.add s d) := rrWord_and _ _ _ _
theorem sub (s : Reg) (d : Reg) : Statement (.sub s d) := rrWord_and _ _ _ _
theorem mul (s : Reg) (d : Reg) : Statement (.mul s d) := rrWord_and _ _ _ _
theorem mulh (s : Reg) (d : Reg) : Statement (.mulh s d) := rrWord_and _ _ _ _
theorem divu (s : Reg) (d : Reg) : Statement (.divu s d) := rrWord_and _ _ _ _
theorem divs (s : Reg) (d : Reg) : Statement (.divs s d) := rrWord_and _ _ _ _
theorem modu (s : Reg) (d : Reg) : Statement (.modu s d) := rrWord_and _ _ _ _
theorem mods (s : Reg) (d : Reg) : Statement (.mods s d) := rrWord_and _ _ _ _
theorem and (s : Reg) (d : Reg) : Statement (.and s d) := rrWord_and _ _ _ _
theorem or (s : Reg) (d : Reg) : Statement (.or s d) := rrWord_and _ _ _ _
theorem xor (s : Reg) (d : Reg) : Statement (.xor s d) := rrWord_and _ _ _ _
theorem shl (s : Reg) (d : Reg) : Statement (.shl s d) := rrWord_and _ _ _ _
theorem shru (s : Reg) (d : Reg) : Statement (.shru s d) := rrWord_and _ _ _ _
theorem shrs (s : Reg) (d : Reg) : Statement (.shrs s d) := rrWord_and _ _ _ _
theorem exps (s : Reg) (d : Reg) : Statement (.exps s d) := rrWord_and _ _ _ _
theorem root (s : Reg) (d : Reg) : Statement (.root s d) := rrWord_and _ _ _ _
theorem cmp (l : Bool) (e : Bool) (g : Bool) (sg : Bool) (a : Reg) (b : Reg) : Statement (.cmp l e g sg a b) := rrWord_andHigh _ _ _ _
theorem b (r : Reg) (imm8 : BitVec 8) : Statement (.b r imm8) := ri8Word_andHigh _ _ _
theorem j (imm12 : BitVec 12) : Statement (.j imm12) := i12Word_and _ _
theorem jr (r : Reg) (imm8 : BitVec 8) : Statement (.jr r imm8) := ri8Word_andHigh _ _ _
theorem illOp0 (w : BitVec 12) : Statement (.illOp0 w) := i12Word_and _ _
theorem illOp1 (w : BitVec 12) : Statement (.illOp1 w) := i12Word_and _ _
theorem illOp2_3 (w : BitVec 8) : Statement (.illOp2_3 w) := ri8Word_and _ _ _
theorem illOp2_4 (w : BitVec 8) : Statement (.illOp2_4 w) := ri8Word_and _ _ _
theorem illOp2_5 (w : BitVec 8) : Statement (.illOp2_5 w) := ri8Word_and _ _ _
theorem illOp2_6 (w : BitVec 8) : Statement (.illOp2_6 w) := ri8Word_and _ _ _
theorem illOp2_7 (w : BitVec 8) : Statement (.illOp2_7 w) := ri8Word_and _ _ _
theorem illOp2_8 (w : BitVec 8) : Statement (.illOp2_8 w) := ri8Word_and _ _ _
theorem illOp2_9 (w : BitVec 8) : Statement (.illOp2_9 w) := ri8Word_and _ _ _
theorem illOp2_A (w : BitVec 8) : Statement (.illOp2_A w) := ri8Word_and _ _ _
theorem illOp2_B (w : BitVec 8) : Statement (.illOp2_B w) := ri8Word_and _ _ _
theorem illOp2_C (w : BitVec 8) : Statement (.illOp2_C w) := ri8Word_and _ _ _
theorem illOp2_D (w : BitVec 8) : Statement (.illOp2_D w) := ri8Word_and _ _ _
theorem illOp2_E (w : BitVec 8) : Statement (.illOp2_E w) := ri8Word_and _ _ _
theorem illOp2_F (w : BitVec 8) : Statement (.illOp2_F w) := ri8Word_and _ _ _
theorem illOp5_0 (w : BitVec 8) : Statement (.illOp5_0 w) := ri8Word_and _ _ _
theorem illOp5_1 (w : BitVec 8) : Statement (.illOp5_1 w) := ri8Word_and _ _ _
theorem illOp5_2 (w : BitVec 8) : Statement (.illOp5_2 w) := ri8Word_and _ _ _
theorem illOp5_3 (w : BitVec 8) : Statement (.illOp5_3 w) := ri8Word_and _ _ _
theorem illOp5_4 (w : BitVec 8) : Statement (.illOp5_4 w) := ri8Word_and _ _ _
theorem illOp5_5 (w : BitVec 8) : Statement (.illOp5_5 w) := ri8Word_and _ _ _
theorem illOp5_6 (w : BitVec 8) : Statement (.illOp5_6 w) := ri8Word_and _ _ _
theorem illOp5_7 (w : BitVec 8) : Statement (.illOp5_7 w) := ri8Word_and _ _ _
theorem illOp5_8 (w : BitVec 8) : Statement (.illOp5_8 w) := ri8Word_and _ _ _
theorem illOp5_9 (w : BitVec 8) : Statement (.illOp5_9 w) := ri8Word_and _ _ _
theorem illOp6_E (w : BitVec 8) : Statement (.illOp6_E w) := ri8Word_and _ _ _
theorem illOp6_F (w : BitVec 8) : Statement (.illOp6_F w) := ri8Word_and _ _ _
theorem illOp7 (w : BitVec 12) : Statement (.illOp7 w) := i12Word_and _ _
theorem illOpC (w : BitVec 12) : Statement (.illOpC w) := i12Word_and _ _
theorem illOpD (w : BitVec 12) : Statement (.illOpD w) := i12Word_and _ _
theorem illOpE (w : BitVec 12) : Statement (.illOpE w) := i12Word_and _ _
theorem illOpF (w : BitVec 12) : Statement (.illOpF w) := i12Word_and _ _

end TableForm

end Sys2Proof.Laws
end

