-- ==== Sys2Proof/Tests/Slice0.lean ====
section
/-! SUPPORT. The model's own tests. Expected values come from the spec: its encodings (30_encoding.md), its worked
examples (the "Example" of each rule) and its test vectors (95_test_vectors.md), named at each test. The `witness_`
theorems show for the statements that have hypotheses that something meets them. -/

namespace Sys2Proof.Tests

open Sys2Proof.Machine Sys2Proof.Claims

/-! ### WellFormed refuses what is no word's instruction -/

/-- 0x102A to 0x102D are system instructions, so no `ill.op1` (30_encoding.md R330). -/
theorem test_wf_illOp1 : WellFormed false (.illOp1 0x02A) = false ∧ WellFormed true (.illOp1 0x02B) = false ∧
    WellFormed false (.illOp1 0x02C) = false ∧ WellFormed false (.illOp1 0x02D) = false ∧
    WellFormed false (.illOp1 0x029) = true := by decide

/-- EXPS and ROOT need the option, their Illegal rows its absence (44_binary.md R645). -/
theorem test_wf_option : WellFormed false (.exps 1 2) = false ∧ WellFormed false (.root 1 2) = false ∧
    WellFormed true (.illOp6_E 0x12) = false ∧ WellFormed true (.illOp6_F 0x12) = false ∧
    WellFormed true (.exps 1 2) = true ∧ WellFormed false (.illOp6_F 0x12) = true := by decide

/-! ### Decoding: a word of every constructor, written out from the spec's encoding of it -/

theorem test_decode_system :
    decode false 0x102A = .ret ∧
    decode false 0x102B = .cpuid ∧
    decode false 0x102C = .debug ∧
    decode false 0x102D = .time := by decide

theorem test_decode_memory :
    decode false 0x2069 = .sw 6 9 ∧
    decode false 0x2169 = .lw 6 9 ∧
    decode false 0x2269 = .lwi 6 9 := by decide

theorem test_decode_immediate :
    decode false 0x3B93 = .lb 11 0x93 ∧
    decode false 0x4B93 = .lhi 11 0x93 := by decide

theorem test_decode_unary :
    decode false 0x5A69 = .not 6 9 ∧
    decode false 0x5B69 = .popcnt 6 9 ∧
    decode false 0x5C69 = .clz 6 9 ∧
    decode false 0x5D69 = .ctz 6 9 ∧
    decode false 0x5E69 = .rnd 6 9 ∧
    decode false 0x5F69 = .mov 6 9 := by decide

theorem test_decode_binary :
    decode false 0x6069 = .add 6 9 ∧
    decode false 0x6169 = .sub 6 9 ∧
    decode false 0x6269 = .mul 6 9 ∧
    decode false 0x6369 = .mulh 6 9 ∧
    decode false 0x6469 = .divu 6 9 ∧
    decode false 0x6569 = .divs 6 9 ∧
    decode false 0x6669 = .modu 6 9 ∧
    decode false 0x6769 = .mods 6 9 ∧
    decode false 0x6869 = .and 6 9 ∧
    decode false 0x6969 = .or 6 9 ∧
    decode false 0x6A69 = .xor 6 9 ∧
    decode false 0x6B69 = .shl 6 9 ∧
    decode false 0x6C69 = .shru 6 9 ∧
    decode false 0x6D69 = .shrs 6 9 ∧
    decode true 0x6E69 = .exps 6 9 ∧
    decode true 0x6F69 = .root 6 9 := by decide

theorem test_decode_compare :
    decode false 0x8B69 = .cmp true false true true 6 9 := by decide

theorem test_decode_control :
    decode false 0x9B93 = .b 11 0x93 ∧
    decode false 0xA8F1 = .j 0x8f1 ∧
    decode false 0xBB93 = .jr 11 0x93 := by decide

theorem test_decode_illegal :
    decode false 0x05A3 = .illOp0 0x5a3 ∧
    decode false 0x15A3 = .illOp1 0x5a3 ∧
    decode false 0x23C7 = .illOp2_3 0xc7 ∧
    decode false 0x24C7 = .illOp2_4 0xc7 ∧
    decode false 0x25C7 = .illOp2_5 0xc7 ∧
    decode false 0x26C7 = .illOp2_6 0xc7 ∧
    decode false 0x27C7 = .illOp2_7 0xc7 ∧
    decode false 0x28C7 = .illOp2_8 0xc7 ∧
    decode false 0x29C7 = .illOp2_9 0xc7 ∧
    decode false 0x2AC7 = .illOp2_A 0xc7 ∧
    decode false 0x2BC7 = .illOp2_B 0xc7 ∧
    decode false 0x2CC7 = .illOp2_C 0xc7 ∧
    decode false 0x2DC7 = .illOp2_D 0xc7 ∧
    decode false 0x2EC7 = .illOp2_E 0xc7 ∧
    decode false 0x2FC7 = .illOp2_F 0xc7 ∧
    decode false 0x50C7 = .illOp5_0 0xc7 ∧
    decode false 0x51C7 = .illOp5_1 0xc7 ∧
    decode false 0x52C7 = .illOp5_2 0xc7 ∧
    decode false 0x53C7 = .illOp5_3 0xc7 ∧
    decode false 0x54C7 = .illOp5_4 0xc7 ∧
    decode false 0x55C7 = .illOp5_5 0xc7 ∧
    decode false 0x56C7 = .illOp5_6 0xc7 ∧
    decode false 0x57C7 = .illOp5_7 0xc7 ∧
    decode false 0x58C7 = .illOp5_8 0xc7 ∧
    decode false 0x59C7 = .illOp5_9 0xc7 ∧
    decode false 0x6EC7 = .illOp6_E 0xc7 ∧
    decode false 0x6FC7 = .illOp6_F 0xc7 ∧
    decode false 0x75A3 = .illOp7 0x5a3 ∧
    decode false 0xC5A3 = .illOpC 0x5a3 ∧
    decode false 0xD5A3 = .illOpD 0x5a3 ∧
    decode false 0xE5A3 = .illOpE 0x5a3 ∧
    decode false 0xF5A3 = .illOpF 0x5a3 := by decide

/-- The table's numbering of bits, and the fetch's byte order (20_memory.md R231). -/
theorem test_tableWord : decodeTableWord 16 0x6421 = some (.divu 2 1) ∧ decodeTableWord 16 0x102D = some .time ∧
    decodeBytes false [0x64, 0x21, 0xFF] = .ok (.divu 2 1, [0xFF]) ∧
    decodeBytes false [0x64] = .error .truncated := ⟨rfl, rfl, rfl, rfl⟩

/-! ### Small states -/

/-- A segment holding `l` from address `base` on. -/
def seg (base : Word) (l : List Word) : Memory := Memory.writeWords [] ((wrapRange base l.length).zip l)

/-- A core with `x[1] = a`, `x[2] = b`, `x[3] = c` at pc `pc` with `l` there, budget 5. -/
def coreAt (pc : Word) (l : List Word) (a b c : Word) : Vm :=
  { (((Vm.created (seg pc l) 5).setReg 1 a).setReg 2 b).setReg 3 c with pc := pc }

/-- A directly run VM with the option on, around such a core. -/
def vmAt (pc : Word) (l : List Word) (a b c : Word) : State :=
  State.fresh .direct true (coreAt pc l a b c) (Vm.created [] 0) []

/-- One step of the machine, read by `f`. -/
def after {α : Type} (s : State) (f : State → α) : Option α :=
  match step s with
  | .next t => some (f t)
  | .fault _ => none
  | .refused _ => none

/-- `x[d]` after one instruction `w` with `x[1] = a`, `x[2] = b`. -/
def regAfter (w a b : Word) (d : Reg) : Option Word := after (vmAt 0 [w] a b 0) fun t => t.main.reg d

/-! ### Unary (V-UN: source in x[1], destination x[2]) -/

theorem test_not : regAfter 0x5A12 0x00F0 0 2 = some 0xFF0F := by decide
theorem test_popcnt : regAfter 0x5B12 0xFFFF 0 2 = some 16 ∧ regAfter 0x5B12 0x1234 0 2 = some 5 := by decide
theorem test_clz : regAfter 0x5C12 0x1234 0 2 = some 3 ∧ regAfter 0x5C12 0 7 2 = some 16 := by decide
theorem test_ctz : regAfter 0x5D12 0x8000 0 2 = some 15 ∧ regAfter 0x5D12 0 7 2 = some 16 := by decide
theorem test_mov : regAfter 0x5F12 0x1234 0 2 = some 0x1234 := by decide
theorem test_rnd_bound_zero : drawRng 0 0 = 0 := by simp [drawRng, Nat.mod_one]

/-! ### Binary (V-BIN: word 0x6f12 has rhs = x[1], lhs and destination = x[2]) -/

theorem test_add : regAfter 0x6012 0x0001 0xFFFF 2 = some 0 ∧ regAfter 0x6011 0x8001 0 1 = some 2 := by decide
theorem test_sub : regAfter 0x6112 0x0001 0x0000 2 = some 0xFFFF ∧ regAfter 0x6112 1 0x8000 2 = some 0x7FFF := by decide
theorem test_mul : regAfter 0x6212 0x1234 0x0010 2 = some 0x2340 ∧ regAfter 0x6212 3 0xFFFE 2 = some 0xFFFA := by decide
theorem test_mulh : regAfter 0x6312 0xFFFF 0xFFFF 2 = some 0xFFFE ∧ regAfter 0x6312 2 0x8000 2 = some 1 := by decide
theorem test_divu : regAfter 0x6421 7 0 1 = some 0xFFFF ∧ regAfter 0x6412 2 7 2 = some 3 := by decide
theorem test_divs : regAfter 0x6512 2 0xFFF9 2 = some 0xFFFC ∧ regAfter 0x6512 0xFFFF 0x8000 2 = some 0x8000 := by decide
theorem test_modu : regAfter 0x6612 0x0010 0xFFFF 2 = some 0x000F ∧ regAfter 0x6612 0 7 2 = some 0 := by decide
theorem test_mods : regAfter 0x6712 0xFFFE 7 2 = some 0xFFFF ∧ regAfter 0x6712 2 0xFFF9 2 = some 1 := by decide
theorem test_and : regAfter 0x6812 0x0FF0 0x3C3C 2 = some 0x0C30 := by decide
theorem test_or : regAfter 0x6912 0x0FF0 0x3C3C 2 = some 0x3FFC := by decide
theorem test_xor : regAfter 0x6A12 0x0FF0 0x3C3C 2 = some 0x33CC := by decide
theorem test_shl : regAfter 0x6B12 4 0x0123 2 = some 0x1230 ∧ regAfter 0x6B12 0x0100 0xFFFF 2 = some 0 := by decide
theorem test_shru : regAfter 0x6C12 4 0x8123 2 = some 0x0812 ∧ regAfter 0x6C12 16 0xFFFF 2 = some 0 := by decide
theorem test_shrs : regAfter 0x6D12 4 0x8123 2 = some 0xF812 ∧ regAfter 0x6D12 0x20 0x8000 2 = some 0xFFFF := by decide
theorem test_exps : regAfter 0x6E12 3 2 2 = some 8 ∧ regAfter 0x6E12 0xFFFF 0 2 = some 0x7FFF := by decide
theorem test_root : regAfter 0x6F12 3 27 2 = some 3 ∧ regAfter 0x6F12 0 9 2 = some 1 := by decide

/-! ### Compare (V-CMP: the row x[a] = 0x0001, x[b] = 0xFFFF), immediates, memory -/

theorem test_cmp : ((List.range 16).map fun f => (compareResult (f.testBit 3) (f.testBit 2) (f.testBit 1) (f.testBit 0)
    0x0001 0xFFFF).toNat) = [0, 0, 0, 1, 0, 0, 0, 1, 1, 0, 1, 1, 1, 0, 1, 1] := by decide
theorem test_cmp_step : regAfter 0x8912 0xFFFF 1 2 = some 1 ∧ regAfter 0x8812 0xFFFF 1 2 = some 0 := by decide
theorem test_lb : regAfter 0x3180 7 0 1 = some 0xFF80 ∧ regAfter 0x317F 7 0 1 = some 0x007F := by decide
theorem test_lhi : regAfter 0x4112 0xFF80 0 1 = some 0x1280 := by decide
theorem test_sw : after (vmAt 0 [0x2031] 15 0 0x0010) (fun t => (t.main.readData 0x10, t.main.dmem)) =
    some (15, [(0x21, 15)]) := by decide
theorem test_lw_same_register : after { vmAt 0 [0x2133] 0 0 0x10 with
      main := { coreAt 0 [0x2133] 0 0 0x10 with dmem := seg 0x10 [0xBEEF] } } (fun t => t.main.reg 3) =
    some 0xBEEF := by decide
theorem test_lwi_reads_itself : regAfter 0x2211 0 0 1 = some 0x2211 := by decide

/-! ### Control transfer (V-CTL) -/

theorem test_b : after (vmAt 0x1234 [0x9380] 0 0 1) (fun t => t.main.pc) = some 0x1233 ∧
    after (vmAt 0 [0x9300] 0 0 0) (fun t => t.main.pc) = some 1 := by decide
theorem test_b_wraps : after (vmAt 0 [0x9380] 0 0 1) (fun t => t.main.pc) = some 0xFFFF ∧
    after (vmAt 0x10 [0x927F] 0 5 0) (fun t => t.main.pc) = some 0x91 := by decide
theorem test_j : after (vmAt 0xFFFF [0xA000] 0 0 0) (fun t => t.main.pc) = some 1 ∧
    after (vmAt 0x100 [0xAFFF] 0 0 0) (fun t => t.main.pc) = some 0xF900 := by decide
theorem test_jr : after (vmAt 0 [0xB101] 0xFFFF 0 0) (fun t => t.main.pc) = some 0 ∧
    after (vmAt 0 [0xB3FE] 0 0 0x200) (fun t => t.main.pc) = some 0x1FE := by decide

/-! ### System instructions and the step contract (V-SYS, V-STEP, W9, W11) -/

theorem test_ret : after (vmAt 0xFFFF [0x102A] 0 0 0) (fun t => (t.result, t.main.status, t.main.pc, t.main.counter,
    t.main.budget)) = some (some (.yield 0), .suspended, 0, 1, 4) := by decide
theorem test_cpuid : regAfter 0x102B 1 2 0 = some 0xC000 ∧ regAfter 0x102B 1 2 1 = some 0 := by decide
theorem test_cpuid_option_off : after { vmAt 0 [0x102B] 1 2 3 with expRootEnabled := false } (fun t => t.main.reg 0) =
    some 0x8000 := by decide
theorem test_debug : after (vmAt 0x10 [0x102C] 1 2 3) (fun t => (t.result, t.main.pc, t.events.map fun v => (v.pc,
    v.counter))) = some (some .debugDump, 0x11, [(0x10, 0)]) := by decide
theorem test_time : after { vmAt 0 [0x102D] 0 0 0 with main := { coreAt 0 [0x102D] 0 0 0 with counter := 2 ^ 32 + 5 } }
    (fun t => (t.main.reg 0, t.main.reg 1, t.main.reg 2, t.main.reg 3)) = some (0, 1, 0, 5) := by decide
theorem test_illegal : after (vmAt 0x300 [0xFFFF] 0 0 0) (fun t => (t.result, t.main.status, t.main.pc,
    t.main.counter, t.main.budget)) = some (some .illegalInstruction, .haltedIllegal, 0x300, 0, 5) := by decide
theorem test_illegal_again : after { vmAt 0 [0x3001] 0 0 0 with main := { coreAt 0 [0x3001] 0 0 0 with
      status := .haltedIllegal } } (fun t => (t.result, t.main.reg 0)) = some (some .illegalInstruction, 0) := by decide
theorem test_timeout : after { vmAt 0 [0x3001] 0 0 0 with main := { coreAt 0 [0x3001] 0 0 0 with budget := 0 } }
    (fun t => (t.result, t.main.reg 0, t.main.pc, t.main.counter)) = some (some .timeOut, 0, 0, 0) := by decide
/-- Suspension is checked before the budget (V-STEP). -/
theorem test_suspended_before_budget : after { vmAt 0 [0x3001] 0 0 0 with main := { coreAt 0 [0x3001] 0 0 0 with
      budget := 0, status := .suspended, yieldLatch := 7 } } (fun t => t.result) = some (some (.yield 7)) := by decide
/-- The first instruction after reset is the one placed at the fetch. -/
theorem test_withFetchWord : after (State.reset.withFetchWord 16 0x3180) (fun t => t.main.reg 1) = some 0xFF80 := by decide
/-- Budget 3 and `jr r0, 0`: three retired, then TimeOut (V-STEP). -/
theorem test_run : (let r := { vmAt 0 [0xB000] 0 0 0 with main := { coreAt 0 [0xB000] 0 0 0 with budget := 3 } }.run none
    (r.1, r.2.main.budget, r.2.main.counter)) = (.timeOut, 0, 3) := by decide

/-! ### The coordinator (V-COORD, V-JUDGE) -/

/-- A driver at DISPATCH with `x[0] .. x[3]` given and data `dm`. -/
def dispatchAt (r0 r1 r2 r3 : Word) (dm : Memory) : State :=
  { State.fresh .testDriver false { (coreAt 0 [0x102A] r1 r2 r3).setReg 0 r0 with dmem := dm } (Vm.created [] 0) [] with
    cstate := .dispatch }

/-- W3: request 6 wraps past the end of the testee's instruction segment. -/
theorem test_request6 : after { dispatchAt 6 0x0120 0xFFFD 4 [] with
      testee := Vm.created (seg 0xFFFD [0x38C4, 0xD183, 0xC2B9, 0x3AE0]) 0 }
    (fun t => (t.cstate, (wrapRange 0x120 5).map t.main.readData)) =
    some (.runDriver, [0x38C4, 0xD183, 0xC2B9, 0x3AE0, 0]) := by decide
theorem test_unknown_request : after (dispatchAt 10 0 0 0 []) (fun t => t.cstate) =
    some (.finished (.driverError (.unknownRequest 10))) := by decide
theorem test_zero_limit : after (dispatchAt 8 0 0 0 []) (fun t => t.cstate) =
    some (.finished (.driverError .zeroLimit)) := by decide
theorem test_bad_magic : after (dispatchAt 2 0 0 0 []) (fun t => t.cstate) =
    some (.finished (.driverError .badMagic)) := by decide
theorem test_done : after (dispatchAt 2 1 0 0 (seg 0 [0x6665, 0x650D, 0x4585])) (fun t => t.cstate) =
    some (.finished (.done 1 [0x6665])) := by decide
/-- Mask 5: x[0] and x[2] taken from the driver, all sixteen written back. -/
theorem test_request3 : after (dispatchAt 3 5 0x40 0 (seg 0x40 [0xA000, 0xA001, 0xA002])) (fun t => (t.testee.reg 0,
    t.testee.reg 1, t.testee.reg 2, t.main.readData 0x41)) = some (0xA000, 0, 0xA002, 0) := by decide
theorem test_descriptors :
    (⟨0x0000, 0x0010, 0x0100, 0x0110⟩ : Descriptor).valid = true ∧ (⟨0xFFF8, 8, 0x0100, 0x0110⟩ : Descriptor).valid = true ∧
    (⟨0, 0x10, 0x100, 0x111⟩ : Descriptor).valid = false ∧ (⟨0x10, 0x10, 0x100, 0x100⟩ : Descriptor).valid = false ∧
    (⟨0, 0x8000, 0, 0x8000⟩ : Descriptor).valid = false ∧ (⟨0, 0x7FFF, 0x8000, 0xFFFF⟩ : Descriptor).valid = true := by decide

/-! ### Witnesses: the hypotheses of the statements can be met -/

/-- A machine in the middle of a testee's run. -/
def testeeTurn : State :=
  { State.fresh .testDriver false (coreAt 0 [] 0 0 0) (coreAt 0 [0x102A] 0 0 0) [] with cstate := .runTestee 5 }

/-- A machine in the middle of a player's turn, the player at word `w` with budget `n`. -/
def playerTurn (w : Word) (n : Count) : State :=
  { State.fresh .judge false (coreAt 0 [] 0 0 0) (Vm.created [] 0) [{ coreAt 0 [w] 0 0 0 with budget := n }] with
    cstate := .runPlayer 0 5 }

/-- A judge at DISPATCH for `p` with two players and data `dm`. -/
def judgeAt (p : Word) (dm : Memory) : State :=
  { State.fresh .judge false { (coreAt 0 [0x102A] 0 0 0).setReg 0 p with dmem := dm } (Vm.created [] 0)
      [Vm.created [] 0, Vm.created [] 0] with cstate := .dispatch }

theorem witness_wellFormed : WellFormed false (.illOp1 0xFFF) = true ∧ WellFormed true (.root 15 0) = true := by decide
theorem witness_step_direct : (vmAt 0 [0x6421] 7 0 0).protocol = .direct ∧ (vmAt 0 [0x6421] 7 0 0).cur.status = .running ∧
    (vmAt 0 [0x6421] 7 0 0).cur.budget ≠ 0 ∧
    decode true ((vmAt 0 [0x6421] 7 0 0).cur.readInstr 0) = .divu 2 1 := by decide
theorem witness_step_coordinated : CoreTurn testeeTurn ∧ testeeTurn.cur.status ≠ .haltedIllegal ∧
    testeeTurn.cur.budget ≠ 0 ∧ decode false (testeeTurn.cur.readInstr testeeTurn.cur.pc) = .ret :=
  ⟨⟨nofun, .inr (.inl ⟨5, rfl⟩)⟩, by decide, by decide, by decide⟩
theorem witness_step_driver : CoreTurn (State.startTestDriver false (seg 0 [0x102A]) [] 1) := ⟨nofun, .inl rfl⟩
/-- A driver about to run the word `w` with budget `n`. -/
def driverTurn (w : Word) (n : Count) : State := State.startTestDriver false (seg 0 [w]) [] n
/-- A driver's step of each result: Continue, a yield, IllegalInstruction and TimeOut (R910). -/
theorem witness_settle : CoreTurn (driverTurn 0x3180 5) ∧ (driverTurn 0x3180 5).cstate = .runDriver ∧
    (∃ u, stepCore (driverTurn 0x3180 5).resume = .next u ∧ u.result = some .continued) ∧
    (∃ u, stepCore (driverTurn 0x102A 5).resume = .next u ∧ u.result = some (.yield 0)) ∧
    (∃ u, stepCore (driverTurn 0 5).resume = .next u ∧ u.result = some .illegalInstruction) ∧
    ∃ u, stepCore (driverTurn 0x102A 0).resume = .next u ∧ u.result = some .timeOut :=
  ⟨⟨nofun, .inl rfl⟩, rfl, ⟨_, rfl, rfl⟩, ⟨_, rfl, rfl⟩, ⟨_, rfl, rfl⟩, _, rfl, rfl⟩
theorem witness_step_player : CoreTurn (playerTurn 0x102A 5) := ⟨nofun, .inr (.inr ⟨0, 5, rfl⟩)⟩
theorem witness_halted : ({ vmAt 0 [] 0 0 0 with main := { coreAt 0 [] 0 0 0 with status := .haltedIllegal } } : State).cur.status =
    .haltedIllegal := rfl
theorem witness_suspended : ({ vmAt 0 [] 0 0 0 with main := { coreAt 0 [] 0 0 0 with status := .suspended } } : State).cur.status =
    .suspended := rfl
theorem witness_timeOut : ({ vmAt 0 [] 0 0 0 with main := { coreAt 0 [] 0 0 0 with budget := 0 } } : State).cur.budget = 0 ∧
    (vmAt 0 [] 0 0 0).cur.status = .running := by decide
/-- The four suspension points: ret, empty budget (witness_timeOut), an Illegal word, debug. -/
theorem witness_suspensionPoints : (vmAt 0 [0x102A] 0 0 0).fetch = .ret ∧ (vmAt 0 [0xFFFF] 0 0 0).fetch = .illOpF 0xFFF ∧
    (vmAt 0 [0x102C] 0 0 0).fetch = .debug := by decide
theorem witness_yield : ∃ t, exec .ret (vmAt 0 [] 0 0 0) = .next t ∧ t.result = some (.yield 0) := ⟨_, rfl, rfl⟩
theorem witness_counter : ∃ s t, stepCore s = .next t ∧ s.cur.status = .running ∧ s.cur.budget ≠ 0 ∧
    s.fetch.isIllegal = false := ⟨vmAt 0 [0x102D] 0 0 0, _, rfl, rfl, by decide, by decide⟩
theorem witness_counter_else : ∃ s t, stepCore s = .next t ∧ s.fetch.isIllegal = true :=
  ⟨vmAt 0 [0x0000] 0 0 0, _, rfl, by decide⟩
theorem witness_cpuid : (vmAt 0 [] 0 0 0).cur.reg 0 = 0 ∧
    ({ vmAt 0 [] 0 0 0 with main := (coreAt 0 [] 0 0 0).setReg 0 0xFFFF } : State).cur.reg 0 ≠ 0 := by decide
theorem witness_illegal : Instr.illOp0 0 ∈ illegalForms 0 0 ∧ Instr.illOpF 0xFFF ∈ illegalForms 0xFFF 0 ∧
    Instr.illOp6_E 0xFF ∈ illegalForms 0 0xFF := by decide
theorem witness_store : (vmAt 0 [0x2012] 0xFFFF 0 0).cur.dmem.wf = true ∧ (vmAt 0 [] 0xFFFF 0 0).cur.reg 1 = 0xFFFF := by decide
theorem witness_load_after_store : ∃ t, (vmAt 0 [] 0 0 0).cur.dmem.wf = true ∧
    exec (.sw 1 2) (vmAt 0 [] 0xFFFF 7 0xFFFF) = .next t := ⟨_, rfl, rfl⟩
theorem witness_pair : (vmAt 0xFFFF [0x3180, 0x4112] 0 0 0).protocol = .direct ∧
    (vmAt 0xFFFF [0x3180, 0x4112] 0 0 0).cur.status = .running ∧ 2 ≤ (vmAt 0xFFFF [0x3180, 0x4112] 0 0 0).cur.budget.toNat ∧
    (vmAt 0xFFFF [0x3180, 0x4112] 0 0 0).cur.readInstr 0xFFFF = riTableWord 0x3 1 0x80 ∧
    (vmAt 0xFFFF [0x3180, 0x4112] 0 0 0).cur.readInstr (0xFFFF + 1) = riTableWord 0x4 1 0x12 := by decide
/-- The bit-count clauses at the lowest and the highest bit, and at 0. -/
theorem witness_bitCounts : (0x0001 : Word).getLsbD 0 = true ∧ (∀ m, 0 < m → m < 16 → (0x0001 : Word).getLsbD m = false) ∧
    (0x8000 : Word).getLsbD 15 = true ∧ (∀ m, m < 15 → (0x8000 : Word).getLsbD m = false) ∧
    (vmAt 0 [] 0 1 0x8000).cur.reg 1 = 0 := by
  refine ⟨by decide, ?_, by decide, by decide, by decide⟩
  intro m h0 h16
  interval_cases m <;> decide
theorem witness_divisor : (vmAt 0 [] 0 7 0).cur.reg 1 = 0 ∧ (vmAt 0 [] 0xFFFF 0x8000 0).cur.reg 1 ≠ 0 := by decide
/-- Bases and exponents for every clause of EXPS: 2^0, 0^-1, 1, -1, 3, 2^-2, 2^-1, (-2)^-1. -/
theorem witness_exps : (2 : Word).toInt = 2 ∧ (0 : Word).toInt = 0 ∧ (0xFFFF : Word).toInt = -1 ∧ (1 : Word).toInt = 1 ∧
    (3 : Word).toInt.natAbs = 3 ∧ (0xFFFE : Word).toInt = -2 ∧ (0x8000 : Word).toInt = -32768 := by decide
/-- Radicands and degrees for every clause of ROOT: 4 and -2 give the half, 3 and 5 and -2 its two sides. -/
theorem witness_root : (3 : Int) < 2 ^ (0xFFFE : Word).toInt.natAbs ∧ (4 : Int) = 2 ^ (0xFFFE : Word).toInt.natAbs ∧
    2 ^ (0xFFFE : Word).toInt.natAbs < (5 : Int) ∧ (0xFFFD : Word).toInt = -3 ∧ (0x7FFF : Word).toInt = 32767 := by decide
theorem witness_compare : ((0xFFFF : Word).toInt < (1 : Word).toInt) ∧ ¬((0xFFFF : Word).toNat < (1 : Word).toNat) ∧
    (vmAt 0 [] 0xFFFF 1 0).cur.reg 1 = 0xFFFF ∧ (vmAt 0 [] 0xFFFF 1 0).cur.reg 2 = 1 := by decide
theorem witness_branch : (vmAt 0 [] 0 0xFFFF 0).cur.reg 1 = 0 ∧ (vmAt 0 [] 0 0xFFFF 0).cur.reg 2 ≠ 0 := by decide
theorem witness_step_next : ∃ t, step (dispatchAt 7 0 0 0 []) = .next t := ⟨_, rfl⟩
theorem witness_exec_next : ∃ t, exec (.add 1 2) testeeTurn = .next t ∧ testeeTurn.agent = .testee := ⟨_, rfl, rfl⟩
/-- Two machines that agree on the executing core only. -/
theorem witness_agree : ({ testeeTurn with main := Vm.created [] 9 } : State).cur = testeeTurn.cur ∧
    ({ testeeTurn with main := Vm.created [] 9 } : State).main ≠ testeeTurn.main := by decide
theorem witness_inv : testeeTurn.Inv ∧ ∃ t, step testeeTurn = .next t := by
  refine ⟨⟨by decide, by decide, by decide, by decide, by decide⟩, _, rfl⟩
theorem witness_inv_player : (playerTurn 0x102A 5).Inv := ⟨by decide, by decide, by decide, by decide, by decide⟩
theorem witness_starts : (seg 0 [0x102A]).wf = true ∧ ∀ m ∈ [seg 0xFFFF [1]], m.wf = true := by decide
theorem witness_image : (List.replicate 131072 (1 : Byte)).length ≤ 131072 ∧
    131072 < (List.replicate 131073 (1 : Byte)).length :=
  ⟨by rw [List.length_replicate], by rw [List.length_replicate]; omega⟩
theorem witness_equal_segments : (seg 0xFFFF [0x1200]).wf = true ∧ Memory.wf [(131070, 0x12)] = true ∧
    ∀ a : Word, (seg 0xFFFF [0x1200]).readWord a = Memory.readWord [(131070, 0x12)] a :=
  ⟨by decide, by decide, fun _ => congrArg (Memory.readWord · _) (by decide)⟩
/-- A run of each outcome: yield, TimeOut by the limit, IllegalInstruction (test_run: by the budget). -/
theorem witness_run : ((vmAt 0 [0x102A] 0 0 0).run none).1 = .yielded 0 ∧
    ((vmAt 0 [0xB000] 0 0 0).run (some 4)).1 = .timeOut ∧ ((vmAt 0 [0] 0 0 0).run none).1 = .illegalInstruction := by decide
theorem witness_turnedAway : (dispatchAt 0 0 0 0 []).protocol ≠ .direct ∧ Dispatches (dispatchAt 0 0 0 0 []) 0 ∧
    Dispatches (dispatchAt 10 0 0 0 []) 10 ∧ Dispatches (dispatchAt 0xFFFF 0 0 0 []) 0xFFFF :=
  ⟨nofun, ⟨rfl, rfl, by decide, by decide⟩, ⟨rfl, rfl, by decide, by decide⟩, ⟨rfl, rfl, by decide, by decide⟩⟩
theorem witness_turnedAway_budget : ({ dispatchAt 1 0 0 0 [] with main := Vm.created [] 0 } : State).cstate = .dispatch ∧
    ({ dispatchAt 1 0 0 0 [] with main := Vm.created [] 0 } : State).main.budget = 0 ∧
    ({ dispatchAt 1 0 0 0 [] with cstate := .finished .driverIllegal } : State).cstate = .finished .driverIllegal := by decide
/-- Requests 4, 5 and 6, with a length of 0 and of 0xFFFF. -/
theorem witness_copy : Dispatches (dispatchAt 4 0xFFFE 0x10 0 []) 4 ∧ Dispatches (dispatchAt 5 0x20 0xFFFE 0xFFFF []) 5 ∧
    Dispatches (dispatchAt 6 0x20 0xFFFD 8 []) 6 ∧ (dispatchAt 4 0xFFFE 0x10 0 []).testee.dmem.wf = true ∧
    (dispatchAt 5 0x20 0xFFFE 0xFFFF []).main.dmem.wf = true :=
  ⟨⟨rfl, rfl, by decide, by decide⟩, ⟨rfl, rfl, by decide, by decide⟩, ⟨rfl, rfl, by decide, by decide⟩, by decide, by decide⟩
/-- P4's round trip: four words written to 0xFFFE on, then read back. -/
theorem witness_round_trip : ∃ t, Dispatches (dispatchAt 4 0xFFFE 0x10 4 []) 4 ∧
    (dispatchAt 4 0xFFFE 0x10 4 []).testee.dmem.wf = true ∧ step (dispatchAt 4 0xFFFE 0x10 4 []) = .next t ∧
    (dispatchAt 5 0x20 0xFFFE 4 []).main.dmem.wf = true ∧
    Dispatches { dispatchAt 5 0x20 0xFFFE 4 [] with testee := t.testee } 5 ∧
    (dispatchAt 5 0x20 0xFFFE 4 []).main.reg 2 = (dispatchAt 4 0xFFFE 0x10 4 []).main.reg 1 ∧
    (dispatchAt 5 0x20 0xFFFE 4 []).main.reg 3 = (dispatchAt 4 0xFFFE 0x10 4 []).main.reg 3 :=
  ⟨_, ⟨rfl, rfl, by decide, by decide⟩, by decide, rfl, by decide, ⟨rfl, rfl, by decide, by decide⟩, by decide,
    by decide⟩
theorem witness_registers : Dispatches (dispatchAt 3 0xFFFF 0xFFF8 0 []) 3 ∧ (dispatchAt 3 0xFFFF 0xFFF8 0 []).main.dmem.wf = true :=
  ⟨⟨rfl, rfl, by decide, by decide⟩, by decide⟩
theorem witness_reset_setPc : Dispatches (dispatchAt 7 0 0 0 []) 7 ∧ Dispatches (dispatchAt 9 0xFFFF 0 0 []) 9 :=
  ⟨⟨rfl, rfl, by decide, by decide⟩, ⟨rfl, rfl, by decide, by decide⟩⟩
/-- Limits 0, 1 and 2^48 - 1, and an execute under a limit. -/
theorem witness_limit : Dispatches (dispatchAt 8 0 0 0 []) 8 ∧ Dispatches (dispatchAt 8 0 0 1 []) 8 ∧
    Dispatches (dispatchAt 8 0xFFFF 0xFFFF 0xFFFF []) 8 ∧
    Dispatches { dispatchAt 1 0 0 0 [] with testeeLimit := some 7 } 1 ∧
    ∃ t, step (dispatchAt 8 0 0 1 []) = .next t ∧ t.testeeLimit ≠ (dispatchAt 8 0 0 1 []).testeeLimit :=
  ⟨⟨rfl, rfl, by decide, by decide⟩, ⟨rfl, rfl, by decide, by decide⟩, ⟨rfl, rfl, by decide, by decide⟩,
    ⟨rfl, rfl, by decide, by decide⟩, _, rfl, by decide⟩
/-- The magic pair present for N = 0, and absent for N = 0xFFFF. -/
theorem witness_done : Dispatches (dispatchAt 2 0 0 0 (seg 0 [0x650D, 0x4585])) 2 ∧
    (dispatchAt 2 0 0 0 (seg 0 [0x650D, 0x4585])).main.readData (wordAt 0 0) = 0x650D ∧
    (dispatchAt 2 0 0 0 (seg 0 [0x650D, 0x4585])).main.readData (wordAt 0 1) = 0x4585 ∧
    Dispatches (dispatchAt 2 0xFFFF 0 0 []) 2 ∧ (dispatchAt 2 0xFFFF 0 0 []).main.readData (wordAt 0 0xFFFF) ≠ 0x650D :=
  ⟨⟨rfl, rfl, by decide, by decide⟩, by decide, by decide, ⟨rfl, rfl, by decide, by decide⟩, by decide⟩
theorem witness_execute : Dispatches (dispatchAt 1 0 0 0 []) 1 ∧ (dispatchAt 1 0 0 0 []).testeeLimit = none ∧
    Dispatches { dispatchAt 1 0 0 0 [] with testeeLimit := some 3 } 1 ∧
    (3 : Count).toNat = min (3 : BitVec 48).toNat (dispatchAt 1 0 0 0 []).main.budget.toNat :=
  ⟨⟨rfl, rfl, by decide, by decide⟩, rfl, ⟨rfl, rfl, by decide, by decide⟩, by decide⟩
theorem witness_ledger_step : testeeTurn.protocol = .testDriver ∧ (∀ p allow, testeeTurn.cstate ≠ .runPlayer p allow) ∧
    ∃ t, step testeeTurn = .next t := ⟨rfl, nofun, _, rfl⟩
theorem witness_ledger : ∃ s, Sys2Proof.core.run 1 (State.startTestDriver false (seg 0 [0x102A]) [] 5) = .next s ∧
    s.cstate = .dispatch ∧ s.main.budget = 4 := ⟨_, rfl, rfl, rfl⟩
theorem witness_judge : JudgeDispatches (judgeAt 0xFFFF []) 0xFFFF ∧ JudgeDispatches (judgeAt 2 []) 2 ∧
    (judgeAt 2 []).players.length ≤ (2 : Word).toNat :=
  ⟨⟨rfl, rfl, by decide, by decide⟩, ⟨rfl, rfl, by decide, by decide⟩, by decide⟩
/-- One write descriptor of size 0 (refused), and no descriptor at all with no time. -/
theorem witness_descriptors : JudgeDispatches (judgeAt 1 (seg 5 [1])) 1 ∧ (1 : Word).toNat < (judgeAt 1 (seg 5 [1])).players.length ∧
    (judgeAt 1 (seg 5 [1])).main.dmem.writeDescriptors = [⟨0, 0, 0, 0⟩] ∧
    JudgeDispatches (judgeAt 0 []) 0 ∧ (judgeAt 0 []).main.dmem.writeDescriptors = [] ∧
    (judgeAt 0 []).main.dmem.readDescriptors = [] :=
  ⟨⟨rfl, rfl, by decide, by decide⟩, by decide, by decide, ⟨rfl, rfl, by decide, by decide⟩, by decide, by decide⟩
/-- The table of a turn of time 9 with two write descriptors: judge words 3 and 4 to player words 0xFFFF and 0, then
judge word 5 to player word 0, which the first one covered too. -/
def twoWrites : Memory := seg 3 [9, 0, 2, 0, 0, 0xFFFF, 1, 3, 5, 0, 1, 5, 6]
theorem witness_turn : JudgeDispatches (judgeAt 1 twoWrites) 1 ∧
    (judgeAt 1 twoWrites).players[1]? = some (Vm.created [] 0) ∧ (Vm.created [] 0).dmem.wf = true ∧
    (∀ d ∈ twoWrites.writeDescriptors ++ twoWrites.readDescriptors, d.valid = true) ∧
    (judgeAt 1 twoWrites).main.readData 3 = 9 ∧ twoWrites.writeDescriptors = [⟨0xFFFF, 1, 3, 5⟩, ⟨0, 1, 5, 6⟩] :=
  ⟨⟨rfl, rfl, by decide, by decide⟩, by decide, by decide, by decide, by decide, by decide⟩
/-- A word of the first write descriptor that the second does not cover, and one that it covers (R953). -/
theorem witness_turn_covers : ¬Covers 0 1 (wordAt 0xFFFF 0) ∧ Covers 0 1 (wordAt 0xFFFF 1) :=
  ⟨fun ⟨j, hj, h⟩ => by obtain rfl : j = 0 := by omega
                        exact absurd h (by decide), 0, by decide, by decide⟩
theorem test_turn_writes : after (judgeAt 1 twoWrites) (fun t => (t.vm (.player 1)).dmem) =
    some (seg 0xFFFF [9, 2]) := by decide
/-- One read descriptor, player words 7 and 8 to judge words 0x20 and 0x21, and A = 0x20: the first registers cover both
of them, and the sixteenth register stands at 0x2F. -/
def oneRead : Memory := seg 4 [0x20, 0, 1, 0, 7, 9, 0x20, 0x22]
theorem test_turn_gains : (judgeDataAfter (seg 4 [0x21, 0, 1, 0, 7, 9, 0x20, 0x22])
    { coreAt 0 [] 5 6 7 with dmem := seg 7 [0xAB, 0xCD] }) =
      (seg 4 [0x21, 0, 1, 0, 7, 9, 0x20, 0x22]).writeWords [(0x20, 0xAB), (0x22, 5), (0x23, 6), (0x24, 7)] := by decide
theorem witness_gains : oneRead.wf = true ∧ oneRead.readDescriptors = [⟨7, 9, 0x20, 0x22⟩] ∧
    Covers oneRead.writeBackAddr 16 0x21 ∧ Covers oneRead.writeBackAddr 16 0x2F ∧
    (judgeDataAfter oneRead (coreAt 0 [] 5 6 7)).readWord 0x21 = 5 :=
  ⟨by decide, by decide, ⟨1, by decide, by decide⟩, ⟨15, by decide, by decide⟩, by decide⟩
/-- A player's run that ends in a yield, in a TimeOut and in an IllegalInstruction. -/
theorem witness_turn_ends :
    (∃ u, stepCore (playerTurn 0x102A 5).resume = .next u ∧ u.ending = some (.yielded 0)) ∧
    (∃ u, stepCore (playerTurn 0x102A 0).resume = .next u ∧ u.ending = some .timeOut) ∧
    (∃ u, stepCore (playerTurn 0x0000 5).resume = .next u ∧ u.ending = some .illegalInstruction) ∧
    ∃ u player, stepCore (playerTurn 0x102A 5).resume = .next u ∧ u.players[0]? = some player :=
  ⟨⟨_, rfl, rfl⟩, ⟨_, rfl, rfl⟩, ⟨_, rfl, rfl⟩, _, _, rfl, rfl⟩

end Sys2Proof.Tests
end

