-- ==== Sys2Proof/Proofs/Offsets.lean ====
section
/-! The branch and jump offsets of spec/30_encoding.md (R313, R314) are one map at two widths: a sign bit above `n`
magnitude bits, read as +2 on or -1 down. Its range and its inverse (R315) are proved once, for every `n`. -/

namespace Sys2Proof.Proofs

open Sys2Proof.Machine

/-- The offset of an immediate with sign bit `n` over `n` magnitude bits: `off8` at `n = 7`, `off12` at `n = 11`. -/
def skipOffset (n : Nat) (imm : BitVec (n + 1)) : Int :=
  if imm.getLsbD n then -(1 + (imm.extractLsb' 0 n).toNat) else 2 + (imm.extractLsb' 0 n).toNat

/-- The immediate of a distance (30_encoding.md R315). -/
def skipImm (n : Nat) (d : Int) : BitVec (n + 1) :=
  BitVec.ofNat (n + 1) (if d < 0 then 2 ^ n + (-d - 1).toNat else (d - 2).toNat)

/-- The distances that have an encoding: 0 and 1 are left out. -/
def SkipRange (n : Nat) (d : Int) : Prop :=
  2 ≤ d ∧ d ≤ (2 ^ n : Nat) + 1 ∨ -(2 ^ n : Nat) ≤ d ∧ d ≤ -1

theorem off8_eq_skipOffset : off8 = skipOffset 7 := rfl

theorem off12_eq_skipOffset : off12 = skipOffset 11 := rfl

theorem skipOffset_of_clear {n : Nat} {imm : BitVec (n + 1)} (h : imm.getLsbD n = false) :
    skipOffset n imm = 2 + (imm.extractLsb' 0 n).toNat :=
  if_neg (by simp only [h, Bool.false_eq_true, not_false_eq_true])

theorem skipOffset_of_set {n : Nat} {imm : BitVec (n + 1)} (h : imm.getLsbD n = true) :
    skipOffset n imm = -(1 + (imm.extractLsb' 0 n).toNat) :=
  if_pos h

/-- The sign bit is set exactly from `2 ^ n` on. -/
theorem getLsbD_sign {n : Nat} (imm : BitVec (n + 1)) : imm.getLsbD n = decide (2 ^ n ≤ imm.toNat) := by
  simpa [BitVec.msb_eq_getLsbD_last] using BitVec.msb_eq_decide imm

/-- The offset as a number of the whole immediate. -/
theorem skipOffset_eq {n : Nat} (imm : BitVec (n + 1)) :
    skipOffset n imm = if imm.toNat < 2 ^ n then 2 + (imm.toNat : Int) else (2 ^ n : Nat) - 1 - (imm.toNat : Int) := by
  have hmag : (imm.extractLsb' 0 n).toNat = imm.toNat % 2 ^ n := by simp
  split
  case isTrue hlt =>
    have hsign : imm.getLsbD n = false := by rw [getLsbD_sign, decide_eq_false (by omega)]
    rw [skipOffset_of_clear hsign, hmag, Nat.mod_eq_of_lt hlt]
  case isFalse hge =>
    have hsign : imm.getLsbD n = true := by rw [getLsbD_sign, decide_eq_true (by omega)]
    have hmod : imm.toNat % 2 ^ n = imm.toNat - 2 ^ n := by
      have hlt := imm.isLt
      rw [Nat.mod_eq_sub_mod (by omega), Nat.mod_eq_of_lt (by omega)]
    rw [skipOffset_of_set hsign, hmag, hmod]
    omega

theorem skipOffset_range {n : Nat} (imm : BitVec (n + 1)) : SkipRange n (skipOffset n imm) := by
  have hlt := imm.isLt
  rw [skipOffset_eq, SkipRange]
  split <;> omega

theorem toNat_skipImm {n : Nat} {d : Int} (h : SkipRange n d) :
    (skipImm n d).toNat = if d < 0 then 2 ^ n + (-d - 1).toNat else (d - 2).toNat := by
  unfold SkipRange at h
  rw [skipImm, BitVec.toNat_ofNat]
  apply Nat.mod_eq_of_lt
  split <;> omega

/-- R315 gives back every distance of the range. -/
theorem skipOffset_skipImm {n : Nat} {d : Int} (h : SkipRange n d) : skipOffset n (skipImm n d) = d := by
  rw [skipOffset_eq, toNat_skipImm h]
  unfold SkipRange at h
  by_cases hneg : d < 0
  · simp only [if_pos hneg]
    split <;> omega
  · simp only [if_neg hneg]
    split <;> omega

/-- R315 gives back every immediate. -/
theorem skipImm_skipOffset (n : Nat) : Function.LeftInverse (skipImm n) (skipOffset n) := by
  intro imm
  apply BitVec.eq_of_toNat_eq
  rw [toNat_skipImm (skipOffset_range imm), skipOffset_eq]
  by_cases hlt : imm.toNat < 2 ^ n
  · simp only [if_pos hlt]
    split <;> omega
  · simp only [if_neg hlt]
    split <;> omega

theorem exists_skipOffset_iff {n : Nat} {d : Int} : (∃ imm, skipOffset n imm = d) ↔ SkipRange n d :=
  ⟨fun ⟨imm, h⟩ => h ▸ skipOffset_range imm, fun h => ⟨skipImm n d, skipOffset_skipImm h⟩⟩

theorem skipOffset_injective (n : Nat) : Function.Injective (skipOffset n) :=
  (skipImm_skipOffset n).injective

/-- Settles O36: both offsets are `skipOffset`, whose range and injectivity hold at every width. -/
theorem offsetsSkipZeroAndOne : Obligations.OffsetsSkipZeroAndOne := by
  unfold Obligations.OffsetsSkipZeroAndOne
  rw [off8_eq_skipOffset, off12_eq_skipOffset]
  exact ⟨fun _ => ⟨skipOffset_of_clear, skipOffset_of_set⟩,
    fun _ => ⟨skipOffset_of_clear, skipOffset_of_set⟩,
    fun _ => exists_skipOffset_iff (n := 7),
    fun _ => exists_skipOffset_iff (n := 11),
    fun _ _ h => skipOffset_injective 7 h,
    fun _ _ h => skipOffset_injective 11 h⟩

end Sys2Proof.Proofs
end

section
/-! The system instructions of spec/40_system.md: what each instruction reports, which makes `ret`, `debug` and the
Illegal words the only ones that stop a run (R407), and the words `cpuid` leaves (R412). -/

namespace Sys2Proof.Proofs

open Sys2Proof.Machine Sys2Proof.Claims

/-! ### What an instruction reports -/

/-- Every instruction answers next: `ret` yields `x[0]`, `debug` dumps, and any other one continues unless its word is
Illegal (60_exceptions.md R807, R820). -/
theorem exec_result_cases (i : Instr) (s : State) :
    ∃ t, exec i s = .next t ∧
      ((i = .ret ∧ t.result = some (.yield (s.cur.reg 0))) ∨
        (i = .debug ∧ t.result = some .debugDump) ∨
        (i ≠ .ret ∧ i ≠ .debug ∧
          t.result = some (if i.isIllegal then .illegalInstruction else .continued))) := by
  cases i
  case ret => exact ⟨_, rfl, .inl ⟨rfl, rfl⟩⟩
  case debug => exact ⟨_, rfl, .inr (.inl ⟨rfl, rfl⟩)⟩
  all_goals exact ⟨_, rfl, .inr (.inr ⟨nofun, nofun, rfl⟩)⟩

/-- R407, "No other opcode suspends": an instruction that yields is `ret`. -/
theorem eq_ret_of_exec_yield {i : Instr} {s t : State} {v : Word} (h : exec i s = .next t)
    (hv : t.result = some (.yield v)) : i = .ret := by
  obtain ⟨u, hu, hcases⟩ := exec_result_cases i s
  obtain rfl : t = u := Host.Outcome.next.inj (h.symm.trans hu)
  rcases hcases with ⟨hret, -⟩ | ⟨-, hdump⟩ | ⟨-, -, hother⟩
  · exact hret
  · simp [hdump] at hv
  · cases hi : i.isIllegal <;> simp [hi, hv] at hother

/-- An instruction that does not continue is one of the three that suspend (R407 (a), (c), (d)). -/
theorem exec_suspends {i : Instr} {s t : State} (h : exec i s = .next t) (hne : t.result ≠ some .continued) :
    i = .ret ∨ i.isIllegal = true ∨ i = .debug := by
  obtain ⟨u, hu, hcases⟩ := exec_result_cases i s
  obtain rfl : t = u := Host.Outcome.next.inj (h.symm.trans hu)
  rcases hcases with ⟨hret, -⟩ | ⟨hdebug, -⟩ | ⟨-, -, hother⟩
  · exact .inl hret
  · exact .inr (.inr hdebug)
  · refine .inr (.inl ?_)
    by_contra hlegal
    exact hne (by simpa [hlegal] using hother)

/-- Settles O10: a RUNNING core either has no budget left or executes its instruction, and `exec_suspends` names those
that do not continue. -/
theorem suspensionPoints : Obligations.SuspensionPoints := by
  unfold Obligations.SuspensionPoints
  refine ⟨fun i s t v => eq_ret_of_exec_yield, fun s t hrun hstep hne => ?_⟩
  rcases stepCore_cases s with ⟨hhalt, -⟩ | ⟨hsusp, -⟩ | ⟨-, hbudget, -⟩ | ⟨-, -, hexec⟩
  · simp [hhalt] at hrun
  · simp [hsusp] at hrun
  · exact .inr (.inl hbudget)
  · rcases exec_suspends (hexec.symm.trans hstep) hne with hret | hillegal | hdebug
    · exact .inl hret
    · exact .inr (.inr (.inl hillegal))
    · exact .inr (.inr (.inr hdebug))

/-! ### `cpuid` -/

theorem reg_setRegs03_of_notMem (c : Vm) (v0 v1 v2 v3 : Word) {q : Reg} (hq : q ∉ ([0, 1, 2, 3] : List Reg)) :
    (c.setRegs03 v0 v1 v2 v3).reg q = c.reg q := by
  simp only [List.mem_cons, List.not_mem_nil, or_false, not_or] at hq
  obtain ⟨h0, h1, h2, h3⟩ := hq
  rw [Vm.reg_setRegs03, if_neg h3, if_neg h2, if_neg h1, if_neg h0]

/-- The values and the frame of an instruction that writes `x[0] .. x[3]` together, as `cpuid` and `time` do, and
retires. -/
theorem retire_setRegs03_frame (s : State) (v0 v1 v2 v3 next : Word) (r : StepResult) :
    ∃ t, s.retire (s.cur.setRegs03 v0 v1 v2 v3) next r = .next t ∧
      t.cur.reg 0 = v0 ∧ t.cur.reg 1 = v1 ∧ t.cur.reg 2 = v2 ∧ t.cur.reg 3 = v3 ∧
      s.RegsKeptBut t [0, 1, 2, 3] ∧ s.MemoryKept t ∧ s.StatusKept t ∧ s.PortsKept t ∧ s.Retired t next r := by
  refine ⟨_, s.retire_eq _ next r, ?_, ?_, ?_, ?_, ?regs, ?memory, ?status, ?ports, ?retired⟩
  case regs =>
    intro q hq
    simpa using reg_setRegs03_of_notMem s.cur v0 v1 v2 v3 hq
  case memory => simp [State.MemoryKept, Memory.Same]
  case status => simp [State.StatusKept]
  case ports => simp [State.PortsKept]
  case retired =>
    have hothers := othersKept_report s _ r (othersKept_setCur s ((s.cur.setRegs03 v0 v1 v2 v3).retire next))
    exact ⟨by simp, by simp, by simp, by simp, hothers⟩
  all_goals simp [Vm.reg_setRegs03]

/-- The bits of CPUID word 0 (R412). -/
theorem cpuidWord_bits (e : Bool) :
    (cpuidWord e).getLsbD 15 = true ∧ (cpuidWord e).getLsbD 14 = e ∧
      ∀ i, i < 14 → (cpuidWord e).getLsbD i = false := by
  cases e <;> decide

/-- Settles O13: `x[0]` is `cpuidWord` for selector 0 and zero for any other, by the frame of `x[0] .. x[3]`. -/
theorem cpuidWord : Obligations.CpuidWord := by
  unfold Obligations.CpuidWord
  refine ⟨fun e => rfl, fun s => ?_⟩
  obtain ⟨t, hexec, h0, hrest⟩ := retire_setRegs03_frame s
    (if s.cur.reg 0 = 0 then Machine.cpuidWord s.expRootEnabled else 0) 0 0 0 s.cur.nextPc .continued
  refine ⟨t, hexec, fun hsel => ?_, fun hsel => ?_, hrest⟩
  · rw [h0, if_pos hsel]
    exact cpuidWord_bits s.expRootEnabled
  · rw [h0, if_neg hsel]

end Sys2Proof.Proofs
end

section
/-! The immediate loads of spec/42_immediate.md: the words of format RI8 and the numbers that `lb` (R500) and `lhi`
(R505) write, with the frame of any instruction that writes one register and retires. -/

namespace Sys2Proof.Proofs

open Sys2Proof.Machine Sys2Proof.Claims

/-! ### Words of format RI8 -/

/-- `++` puts a field on top of `n` lower bits, so numerically it scales the upper field by `2 ^ n` and adds. -/
theorem toNat_append_eq_mul_add {m n : Nat} (x : BitVec m) (y : BitVec n) :
    (x ++ y).toNat = x.toNat * 2 ^ n + y.toNat := by
  rw [BitVec.toNat_append, ← Nat.shiftLeft_add_eq_or_of_lt y.isLt, Nat.shiftLeft_eq]

/-- The word of the table, given as a number, is the encoder's word from the same fields (R302). -/
theorem riTableWord_eq_ri8Word (op r : BitVec 4) (imm : BitVec 8) :
    riTableWord op.toNat r imm = ri8Word op r imm := by
  apply BitVec.eq_of_toNat_eq
  rw [riTableWord, ri8Word, BitVec.toNat_ofNat, toNat_append_eq_mul_add, toNat_append_eq_mul_add]
  omega

theorem decodes_lb (r : Reg) (imm : BitVec 8) : Decodes (ri8Word 0x3 r imm) (.lb r imm) := by
  intro e
  simp [decode]

theorem decodes_lhi (r : Reg) (imm : BitVec 8) : Decodes (ri8Word 0x4 r imm) (.lhi r imm) := by
  intro e
  simp [decode]

/-! ### Instructions that write one register -/

/-- An instruction that ends in `retireReg` has the value and the frame of `WritesReg`: the write and the retire phase
touch nothing but the register, pc, counter and budget of the executing core (R805, R806). -/
theorem writesReg_of_exec_eq_retireReg {i : Instr} {s : State} {d : Reg} {v : Word}
    (h : exec i s = s.retireReg d v) : WritesReg i s d v := by
  refine ⟨_, h.trans (s.retireReg_eq d v), ?value, ?regs, ?memory, ?status, ?ports, ?retired⟩
  case value => simp
  case regs =>
    intro q hq
    have hne : q ≠ d := by simpa using hq
    simp [Vm.reg_setReg, hne]
  case memory => simp [State.MemoryKept, Memory.Same]
  case status => simp [State.StatusKept]
  case ports => simp [State.PortsKept]
  case retired =>
    have hothers := othersKept_report s _ .continued
      (othersKept_setCur s ((s.cur.setReg d v).retire (s.cur.pc + 1)))
    exact ⟨by simp, by simp, by simp, by simp, hothers⟩

/-! ### The values written -/

/-- Sign extension as a number: an immediate from 0x80 on gets a high byte of ones. -/
theorem toNat_sext8 (imm : BitVec 8) :
    (sext8 imm).toNat = if imm.toNat < 0x80 then imm.toNat else 0xFF00 + imm.toNat := by
  rw [sext8, BitVec.toNat_signExtend, BitVec.toNat_setWidth_of_le (by omega)]
  by_cases hsmall : imm.toNat < 0x80
  · have hmsb : imm.msb = false := BitVec.msb_eq_false_iff_two_mul_lt.mpr (by omega)
    simp [hmsb, hsmall]
  · have hmsb : imm.msb = true := BitVec.msb_eq_true_iff_two_mul_ge.mpr (by omega)
    simp [hmsb, hsmall, Nat.add_comm]

/-- R505 as a number: the high byte is the immediate, the low byte is the one of the old word. -/
theorem toNat_withHighByte (imm : BitVec 8) (old : Word) :
    (withHighByte imm old).toNat = 256 * imm.toNat + old.toNat % 256 := by
  rw [withHighByte, toNat_append_eq_mul_add, BitVec.extractLsb'_toNat, Nat.shiftRight_zero]
  omega

/-- Settles O20: `lb` ends in `retireReg` with the sign extension, whose number is `toNat_sext8`. -/
theorem loadLowSignExtends : Obligations.LoadLowSignExtends := by
  unfold Obligations.LoadLowSignExtends
  intro s r imm
  have hword : riTableWord 0x3 r imm = ri8Word 0x3 r imm := riTableWord_eq_ri8Word 0x3 r imm
  have hexec : exec (.lb r imm) s = s.retireReg r (sext8 imm) := rfl
  exact ⟨hword ▸ decodes_lb r imm, sext8 imm, writesReg_of_exec_eq_retireReg hexec, toNat_sext8 imm⟩

/-- Settles O21: `lhi` ends in `retireReg` with the old word's high byte replaced, whose number is
`toNat_withHighByte`. -/
theorem loadHighKeepsLowByte : Obligations.LoadHighKeepsLowByte := by
  unfold Obligations.LoadHighKeepsLowByte
  intro s r imm
  have hword : riTableWord 0x4 r imm = ri8Word 0x4 r imm := riTableWord_eq_ri8Word 0x4 r imm
  have hexec : exec (.lhi r imm) s = s.retireReg r (withHighByte imm (s.cur.reg r)) := rfl
  exact ⟨hword ▸ decodes_lhi r imm, withHighByte imm (s.cur.reg r), writesReg_of_exec_eq_retireReg hexec,
    toNat_withHighByte imm (s.cur.reg r)⟩

end Sys2Proof.Proofs
end

section
/-! The control transfers of spec/46_control_transfer.md: each writes nothing but the pc, and each pc that is not the
next word is a `target`, whose number is one reduction modulo 2^16 (R750) for `b` (R752), `j` (R755) and `jr` (R758). -/

namespace Sys2Proof.Proofs

open Sys2Proof.Machine Sys2Proof.Claims

/-! ### The words -/

/-- The number of a word of format I12, given with its opcode, is the encoder's word from the same fields (R302). -/
theorem ofNat_opcode_add_eq_i12Word (op : BitVec 4) (imm : BitVec 12) :
    BitVec.ofNat 16 (op.toNat * 4096 + imm.toNat) = i12Word op imm := by
  apply BitVec.eq_of_toNat_eq
  rw [i12Word, BitVec.toNat_ofNat, toNat_append_eq_mul_add]
  omega

theorem decodes_b (r : Reg) (imm : BitVec 8) : Decodes (ri8Word 0x9 r imm) (.b r imm) := by
  intro e
  simp [decode]

theorem decodes_j (imm : BitVec 12) : Decodes (i12Word 0xA imm) (.j imm) := by
  intro e
  simp [decode]

theorem decodes_jr (r : Reg) (imm : BitVec 8) : Decodes (ri8Word 0xB r imm) (.jr r imm) := by
  intro e
  simp [decode]

/-! ### Instructions that only move the pc -/

/-- An instruction that retires the executing core with no write has the frame of `JumpsTo` (R805, R806). -/
theorem jumpsTo_of_exec_eq_retire {i : Instr} {s : State} {next : Word}
    (h : exec i s = s.retire s.cur next .continued) : JumpsTo i s next := by
  refine ⟨_, h.trans (s.retire_eq s.cur next .continued), ?regs, ?memory, ?status, ?ports, ?retired⟩
  case regs =>
    intro q _
    simp
  case memory => simp [State.MemoryKept, Memory.Same]
  case status => simp [State.StatusKept]
  case ports => simp [State.PortsKept]
  case retired =>
    have hothers := othersKept_report s _ .continued (othersKept_setCur s (s.cur.retire next))
    exact ⟨by simp, by simp, by simp, by simp, hothers⟩

/-! ### The targets -/

theorem toNat_target (a : Word) (d : Int) : ((target a d).toNat : Int) = (a.toNat + d) % 65536 := by
  rw [target, u16, BitVec.toNat_ofInt]
  omega

/-- Adding the sign-extended immediate to a word wraps as a target does (R758). -/
theorem add_sext8_eq_target (a : Word) (imm : BitVec 8) : a + sext8 imm = target a imm.toInt := by
  rw [target, u16, BitVec.ofInt_add, BitVec.ofInt_natCast, BitVec.ofNat_toNat, BitVec.setWidth_eq, sext8,
    BitVec.signExtend]

theorem toNat_nextPc (c : Vm) : c.nextPc.toNat = (c.pc.toNat + 1) % 65536 := by
  rw [Vm.nextPc, BitVec.toNat_add]
  rfl

/-- R313 as a number of the whole immediate. -/
theorem off8_eq_ite (imm : BitVec 8) :
    off8 imm = if imm.toNat < 128 then 2 + (imm.toNat : Int) else -(1 + ((imm.toNat : Int) - 128)) := by
  rw [off8_eq_skipOffset, skipOffset_eq (n := 7)]
  split <;> omega

/-- R314 as a number of the whole immediate. -/
theorem off12_eq_ite (imm : BitVec 12) :
    off12 imm = if imm.toNat < 2048 then 2 + (imm.toNat : Int) else -(1 + ((imm.toNat : Int) - 2048)) := by
  rw [off12_eq_skipOffset, skipOffset_eq (n := 11)]
  split <;> omega

/-! ### The instructions -/

theorem jumpsTo_b_of_zero {s : State} {r : Reg} (imm : BitVec 8) (h : s.cur.reg r = 0) :
    JumpsTo (.b r imm) s s.cur.nextPc := by
  have hexec : exec (.b r imm) s = execB r imm s := rfl
  rw [execB, if_neg (not_not_intro h)] at hexec
  exact jumpsTo_of_exec_eq_retire hexec

theorem jumpsTo_b_of_ne_zero {s : State} {r : Reg} (imm : BitVec 8) (h : s.cur.reg r ≠ 0) :
    JumpsTo (.b r imm) s (target s.cur.pc (off8 imm)) := by
  have hexec : exec (.b r imm) s = execB r imm s := rfl
  rw [execB, if_pos h] at hexec
  exact jumpsTo_of_exec_eq_retire hexec

/-- Settles O33: by cases on the tested register, which chooses between the next word and the offset's target. -/
theorem branchWhenNonzero : Obligations.BranchWhenNonzero := by
  unfold Obligations.BranchWhenNonzero
  intro s r imm
  have hword : riTableWord 0x9 r imm = ri8Word 0x9 r imm := riTableWord_eq_ri8Word 0x9 r imm
  refine ⟨hword ▸ decodes_b r imm, ?_⟩
  by_cases hzero : s.cur.reg r = 0
  · exact ⟨s.cur.nextPc, jumpsTo_b_of_zero imm hzero, fun _ => toNat_nextPc s.cur, fun hne => absurd hzero hne⟩
  · refine ⟨target s.cur.pc (off8 imm), jumpsTo_b_of_ne_zero imm hzero, fun h => absurd h hzero, fun _ => ?_⟩
    rw [toNat_target, off8_eq_ite]

/-- Settles O34: `j` retires at the target of its offset, `off12_eq_ite` as a number. -/
theorem jumpByImmediate : Obligations.JumpByImmediate := by
  unfold Obligations.JumpByImmediate
  intro s imm
  have hword : BitVec.ofNat 16 (0xA000 + imm.toNat) = i12Word 0xA imm := ofNat_opcode_add_eq_i12Word 0xA imm
  have hexec : exec (.j imm) s = s.retire s.cur (target s.cur.pc (off12 imm)) .continued := rfl
  refine ⟨hword ▸ decodes_j imm, target s.cur.pc (off12 imm), jumpsTo_of_exec_eq_retire hexec, ?_⟩
  rw [toNat_target, off12_eq_ite]

/-- Settles O35: the wrapping sum of `jr` is the target of the immediate's signed reading from the register. -/
theorem jumpToRegister : Obligations.JumpToRegister := by
  unfold Obligations.JumpToRegister
  intro s r imm
  have hword : riTableWord 0xB r imm = ri8Word 0xB r imm := riTableWord_eq_ri8Word 0xB r imm
  have hexec : exec (.jr r imm) s = s.retire s.cur (s.cur.reg r + sext8 imm) .continued := rfl
  refine ⟨hword ▸ decodes_jr r imm, s.cur.reg r + sext8 imm, jumpsTo_of_exec_eq_retire hexec, ?_⟩
  rw [add_sext8_eq_target, toNat_target]

end Sys2Proof.Proofs
end

section
/-! The step contract of spec/60_exceptions.md: a core that is HALTED_ILLEGAL answers every further step alike (R810),
and the step result of each instruction (R807). -/

namespace Sys2Proof.Proofs

open Sys2Proof.Machine

/-! ### Runs that stay in one state -/

theorem step_of_direct {s : State} (h : s.protocol = .direct) : step s = stepCore s := by
  simp [step, h]

theorem run_succ {s t : State} (h : step s = .next t) (k : Nat) :
    Sys2Proof.core.run (k + 1) s = Sys2Proof.core.run k t := by
  have hcore : Sys2Proof.core.step s = .next t := h
  simp only [Host.Core.run, hcore]

/-- A state that its own step answers is the end of every run from it. -/
theorem run_eq_self_of_step {s : State} (h : step s = .next s) : ∀ k, Sys2Proof.core.run k s = .next s
  | 0 => rfl
  | k + 1 => (run_succ h k).trans (run_eq_self_of_step h k)

/-! ### A halted core -/

/-- R810 for one step: the report, and no other change. -/
theorem stepCore_of_halted {s : State} (h : s.cur.status = .haltedIllegal) :
    stepCore s = .next (s.report .illegalInstruction) := by
  rcases stepCore_cases s with ⟨-, hstep⟩ | ⟨hsusp, -⟩ | ⟨hrun, -, -⟩ | ⟨hrun, -, -⟩
  · exact hstep
  · simp [h] at hsusp
  · simp [h] at hrun
  · simp [h] at hrun

/-- The report is all that a halted core's step changes, so that a second one answers the very same state. -/
theorem stepCore_report_of_halted {s : State} (h : s.cur.status = .haltedIllegal) :
    stepCore (s.report .illegalInstruction) = .next (s.report .illegalInstruction) :=
  stepCore_of_halted (s := s.report .illegalInstruction) h

/-- Settles O6: the first step reports, and the state it answers is the one every further step answers. -/
theorem haltedCoreReportsIllegalAgain : Obligations.HaltedCoreReportsIllegalAgain := by
  unfold Obligations.HaltedCoreReportsIllegalAgain
  intro s hhalted
  have hfirst : stepCore s = .next (s.report .illegalInstruction) := stepCore_of_halted hhalted
  refine ⟨hfirst, fun hdirect k => ?_⟩
  have hagain : step (s.report .illegalInstruction) = .next (s.report .illegalInstruction) :=
    (step_of_direct (s := s.report .illegalInstruction) hdirect).trans (stepCore_report_of_halted hhalted)
  calc Sys2Proof.core.run (k + 1) s
      = Sys2Proof.core.run k (s.report .illegalInstruction) := run_succ ((step_of_direct hdirect).trans hfirst) k
    _ = .next (s.report .illegalInstruction) := run_eq_self_of_step hagain k

/-! ### The result of an instruction -/

/-- Settles O9: the three cases of `exec_result_cases` are the branches of the statement's chain. -/
theorem resultOfEachInstruction : Obligations.ResultOfEachInstruction := by
  unfold Obligations.ResultOfEachInstruction
  intro i s
  obtain ⟨t, hexec, hcases⟩ := exec_result_cases i s
  refine ⟨t, hexec, ?_⟩
  rcases hcases with ⟨rfl, hyield⟩ | ⟨rfl, hdump⟩ | ⟨hret, hdebug, hother⟩
  · rw [hyield, if_pos rfl]
  · rw [hdump, if_neg nofun, if_pos rfl]
  · rw [hother, if_neg hret, if_neg hdebug]

end Sys2Proof.Proofs
end

section
/-! No step writes an instruction segment (spec/70_reset_and_hazards.md R1012): every way a core is replaced, by an
instruction, by a request or by JUDGE_R, keeps its IMEM, and a step of the machine is made of these replacements. -/

namespace Sys2Proof.Proofs

open Sys2Proof.Machine Sys2Proof.Claims

/-! ### What a step of the machine can do -/

/-- Everything the end of a core's step can do: nothing while the run goes on or where no core was running, else the
end of the run in progress (65_coordination.md R910, R931, R953). -/
theorem settle_cases (s : State) :
    s.settle = s ∨ ∃ o, s.ending = some o ∧
      ((s.cstate = .runDriver ∧ s.settle = s.endDriver o) ∨
        (∃ allow, s.cstate = .runTestee allow ∧ s.settle = s.endTestee allow o) ∨
        (∃ p allow, s.cstate = .runPlayer p allow ∧ s.settle = s.endTurn p allow o)) := by
  cases hend : s.ending with
  | none => exact .inl (by simp [State.settle, hend])
  | some o =>
    cases hcs : s.cstate with
    | runDriver => exact .inr ⟨o, rfl, .inl ⟨rfl, by simp [State.settle, hend, hcs]⟩⟩
    | dispatch => exact .inl (by simp [State.settle, hend, hcs])
    | runTestee allow => exact .inr ⟨o, rfl, .inr (.inl ⟨allow, rfl, by simp [State.settle, hend, hcs]⟩)⟩
    | runPlayer p allow => exact .inr ⟨o, rfl, .inr (.inr ⟨p, allow, rfl, by simp [State.settle, hend, hcs]⟩)⟩
    | finished _ => exact .inl (by simp [State.settle, hend, hcs])

/-- Everything one step of a coordinated run can do (65_coordination.md R910, R913). -/
theorem coordinate_cases {s t : State} (h : coordinate s = .next t) :
    (s.cstate = .dispatch ∧ t = s.dispatch) ∨ ((∃ o, s.cstate = .finished o) ∧ t = s) ∨
      (s.cstate ≠ .dispatch ∧ (∀ o, s.cstate ≠ .finished o) ∧ ∃ u, stepCore s.resume = .next u ∧ t = u.settle) := by
  unfold coordinate at h
  cases hcs : s.cstate <;> rw [hcs] at h
  case dispatch => exact .inl ⟨rfl, (Host.Outcome.next.inj h).symm⟩
  case finished o => exact .inr (.inl ⟨⟨o, rfl⟩, (Host.Outcome.next.inj h).symm⟩)
  all_goals exact .inr (.inr ⟨nofun, nofun, andThen_eq_next h⟩)

/-- A step is one of the directly run VM or of the coordinator (60_exceptions.md R801, 65_coordination.md R910). -/
theorem step_eq_stepCore_or_coordinate (s : State) :
    (s.protocol = .direct ∧ step s = stepCore s) ∨ (s.protocol ≠ .direct ∧ step s = coordinate s) := by
  cases hp : s.protocol with
  | direct => exact .inl ⟨rfl, step_of_direct hp⟩
  | testDriver => exact .inr ⟨nofun, by simp [step, hp]⟩
  | judge => exact .inr ⟨nofun, by simp [step, hp]⟩

/-! ### Instruction segments kept -/

/-- Every core of the machine, player by player, has the same instruction segment in both states. -/
def ImemKept (s t : State) : Prop :=
  t.main.imem = s.main.imem ∧ t.testee.imem = s.testee.imem ∧ t.players.map Vm.imem = s.players.map Vm.imem

theorem ImemKept.refl (s : State) : ImemKept s s := ⟨rfl, rfl, rfl⟩

theorem ImemKept.trans {s t u : State} (hst : ImemKept s t) (htu : ImemKept t u) : ImemKept s u := by
  obtain ⟨hmain, htestee, hplayers⟩ := hst
  obtain ⟨hmain', htestee', hplayers'⟩ := htu
  exact ⟨hmain'.trans hmain, htestee'.trans htestee, hplayers'.trans hplayers⟩

/-- A state with the same players keeps every IMEM where its main core and its testee do. -/
theorem imemKept_of_players_eq {s t : State} (hmain : t.main.imem = s.main.imem)
    (htestee : t.testee.imem = s.testee.imem) (hplayers : t.players = s.players) : ImemKept s t :=
  ⟨hmain, htestee, by rw [hplayers]⟩

/-- The key fact: a core may be replaced by one with the same IMEM, whichever core it is. -/
theorem imemKept_setVm (s : State) (a : Agent) {c : Vm} (h : c.imem = (s.vm a).imem) : ImemKept s (s.setVm a c) := by
  cases a with
  | main => exact ⟨h, rfl, rfl⟩
  | testee => exact ⟨rfl, h, rfl⟩
  | player p =>
    by_cases hp : p < s.players.length
    · have himem : c.imem = s.players[p].imem := by simpa [State.vm, hp] using h
      have hset : (s.players.map Vm.imem).set p s.players[p].imem = s.players.map Vm.imem := by
        rw [← List.getElem_map Vm.imem (h := by simpa using hp), List.set_getElem_self]
      simp [ImemKept, State.setVm, hp, List.map_set, himem, hset]
    · have himem : c.imem = s.main.imem := by simpa [State.vm, hp] using h
      simp [ImemKept, State.setVm, hp, himem]

theorem imemKept_setCur (s : State) {c : Vm} (h : c.imem = s.cur.imem) : ImemKept s (s.setCur c) :=
  imemKept_setVm s s.agent h

/-! ### A core's step -/

theorem imemKept_resume (s : State) : ImemKept s s.resume := imemKept_setCur s s.cur.resume_imem

theorem imemKept_exec {i : Instr} {s t : State} (h : exec i s = .next t) : ImemKept s t := by
  obtain ⟨c, ev, n, m, r, hexec, himem, -⟩ := exec_shape i s
  obtain rfl := Host.Outcome.next.inj (hexec.symm.trans h)
  exact imemKept_setCur { s with events := ev, rngCalls := n, freeDraws := m } himem

theorem imemKept_stepCore {s t : State} (h : stepCore s = .next t) : ImemKept s t := by
  rcases stepCore_cases s with ⟨-, hstep⟩ | ⟨-, hstep⟩ | ⟨-, -, hstep⟩ | ⟨-, -, hstep⟩
  case inr.inr.inr => exact imemKept_exec (hstep.symm.trans h)
  all_goals
    obtain rfl := Host.Outcome.next.inj (hstep.symm.trans h)
    exact ImemKept.refl s

/-! ### The end of a core's run -/

/-- R154 has no transaction that writes IMEM. -/
theorem imemKept_access (s : State) (x : Access) : ImemKept s (s.access x) := by
  cases x with
  | writeReg a _ _ => exact imemKept_setVm s a rfl
  | writePc a _ => exact imemKept_setVm s a rfl
  | writeData a _ _ => exact imemKept_setVm s a rfl
  | writeBudget a _ => exact imemKept_setVm s a rfl
  | zeroState a => exact imemKept_setVm s a rfl

theorem imemKept_accessAll (s : State) (l : List Access) : ImemKept s (s.accessAll l) := by
  induction l generalizing s with
  | nil => exact ImemKept.refl s
  | cons x l ih => exact (imemKept_access s x).trans (ih (s.access x))

theorem imemKept_endDriver (s : State) (o : RunOutcome) : ImemKept s (s.endDriver o) :=
  imemKept_of_players_eq (by simp) (by simp) (by simp)

theorem imemKept_endTestee (s : State) (allow : Count) (o : RunOutcome) : ImemKept s (s.endTestee allow o) :=
  imemKept_of_players_eq (by simp) (by simp) (by simp)

theorem imemKept_payTurn (s : State) (p : Nat) (allow : Count) : ImemKept s (s.payTurn p allow) :=
  imemKept_of_players_eq (by simp) (by simp) (by simp)

/-- Whatever transactions JUDGE_R performs, the end of a turn keeps every IMEM (R953). -/
theorem imemKept_endTurnWith (s : State) (p : Nat) (allow : Count) (o : RunOutcome) (effect : List Access) :
    ImemKept s (s.endTurnWith p allow o effect) := by
  have happlied := (imemKept_payTurn s p allow).trans (imemKept_accessAll (s.payTurn p allow) effect)
  exact happlied.trans (imemKept_setVm _ .main (Vm.tellOutcome_imem _ o))

theorem imemKept_settle (s : State) : ImemKept s s.settle := by
  rcases settle_cases s with hend | ⟨o, -, ⟨-, hend⟩ | ⟨allow, -, hend⟩ | ⟨p, allow, -, hend⟩⟩ <;> rw [hend]
  · exact ImemKept.refl s
  · exact imemKept_endDriver s o
  · exact imemKept_endTestee s allow o
  · exact imemKept_endTurnWith s p allow o _

/-! ### A dispatch -/

theorem imemKept_dispatchRequest (s : State) : ImemKept s s.dispatchRequest := by
  rcases dispatchRequest_cases s with ⟨o, hd⟩ | ⟨-, hd⟩ | ⟨-, -, hd⟩ | ⟨t, hd, hreq⟩ <;> rw [hd]
  · exact ImemKept.refl s
  · exact imemKept_of_players_eq (by simp) (by simp) (by simp)
  · exact ImemKept.refl s
  · rcases hreq with rfl | rfl | rfl | rfl | rfl | rfl
    all_goals exact imemKept_of_players_eq (by simp) (by simp) (by simp)

theorem imemKept_dispatchJudge (s : State) : ImemKept s s.dispatchJudge := by
  rcases dispatchJudge_cases s with ⟨o, hd⟩ | ⟨p, -, -, hd⟩ <;> rw [hd]
  · exact ImemKept.refl s
  · exact imemKept_setVm s (.player p) (c := s.loadedPlayer p) rfl

theorem imemKept_dispatch (s : State) : ImemKept s s.dispatch := by
  unfold State.dispatch
  cases s.protocol with
  | direct => exact ImemKept.refl s
  | testDriver => exact imemKept_dispatchRequest s
  | judge => exact imemKept_dispatchJudge s

/-! ### A step of the machine -/

theorem imemKept_coordinate {s t : State} (h : coordinate s = .next t) : ImemKept s t := by
  rcases coordinate_cases h with ⟨-, rfl⟩ | ⟨-, rfl⟩ | ⟨-, -, u, hcore, rfl⟩
  · exact imemKept_dispatch s
  · exact ImemKept.refl t
  · exact ((imemKept_resume s).trans (imemKept_stepCore hcore)).trans (imemKept_settle u)

/-- Settles O37: a step is a core's step or the coordinator's, and each keeps every instruction segment. -/
theorem instructionSegmentsNeverChange : Obligations.InstructionSegmentsNeverChange := by
  unfold Obligations.InstructionSegmentsNeverChange
  intro s t hstep
  change ImemKept s t
  rcases step_eq_stepCore_or_coordinate s with ⟨-, heq⟩ | ⟨-, heq⟩ <;> rw [heq] at hstep
  · exact imemKept_stepCore hstep
  · exact imemKept_coordinate hstep

end Sys2Proof.Proofs
end

section
/-! The encoding of spec/30_encoding.md: decoder and encoder are inverse to each other (R301, R330), so that a word of
the opcode table decodes to an instruction as soon as it is the instruction's word. -/

namespace Sys2Proof.Proofs

open Sys2Proof.Machine Sys2Proof.Claims

/-! ### Decoding an encoded instruction -/

theorem decodeSystem_of_not_payload {p : BitVec 12} (h : isSystemPayload p = false) : decodeSystem p = .illOp1 p := by
  simp only [isSystemPayload, Bool.or_eq_false_iff, beq_eq_false_iff_ne] at h
  obtain ⟨⟨⟨hret, hcpuid⟩, hdebug⟩, htime⟩ := h
  rw [decodeSystem, if_neg hret, if_neg hcpuid, if_neg hdebug, if_neg htime]

/-- Settles O1: the fields of the word that `encode` builds select the row of each constructor; the rows that share
words, `illOp1` and those of the option, are told apart by `WellFormed`. -/
theorem decodeOfEncodeIsIdentity : Obligations.DecodeOfEncodeIsIdentity := by
  unfold Obligations.DecodeOfEncodeIsIdentity
  intro e i hwf
  cases i
  case ret | cpuid | debug | time => rfl
  case illOp1 w =>
    have hpayload : isSystemPayload w = false := by simpa [WellFormed] using hwf
    simp [encode, decode, decodeSystem_of_not_payload hpayload]
  case cmp l eq g sg a b =>
    simpa [encode, decode] using flagBits_rrWord 0x8 a b l eq g sg
  case exps | root | illOp6_E | illOp6_F => simp_all [encode, decode, decodeBinary, WellFormed]
  all_goals simp [encode, decode, decodeMemory, decodeUnary, decodeBinary]

/-! ### Encoding a decoded word -/

theorem rrWord_eq_ri8Word (op f hi lo : BitVec 4) : rrWord op f hi lo = ri8Word op f (hi ++ lo) := by
  apply BitVec.eq_of_toNat_eq
  simp only [rrWord, ri8Word, toNat_append_eq_mul_add]
  omega

theorem ri8Word_eq_i12Word (op f : BitVec 4) (p : BitVec 8) : ri8Word op f p = i12Word op (f ++ p) := by
  apply BitVec.eq_of_toNat_eq
  simp only [ri8Word, i12Word, toNat_append_eq_mul_add]
  omega

theorem hiField_append_loField (w : Word) : hiField w ++ loField w = imm8Field w := by
  apply BitVec.eq_of_toNat_eq
  simp only [hiField, loField, imm8Field, toNat_append_eq_mul_add, BitVec.extractLsb'_toNat, Nat.shiftRight_eq_div_pow]
  omega

theorem fField_append_imm8Field (w : Word) : fField w ++ imm8Field w = imm12Field w := by
  apply BitVec.eq_of_toNat_eq
  simp only [fField, imm8Field, imm12Field, toNat_append_eq_mul_add, BitVec.extractLsb'_toNat,
    Nat.shiftRight_eq_div_pow]
  omega

/-- A word is its opcode and its low twelve bits (R302). -/
theorem eq_i12Word (w : Word) : w = i12Word (opField w) (imm12Field w) := by
  apply BitVec.eq_of_toNat_eq
  have hlt := w.isLt
  simp only [opField, imm12Field, i12Word, toNat_append_eq_mul_add, BitVec.extractLsb'_toNat,
    Nat.shiftRight_eq_div_pow]
  omega

theorem eq_ri8Word (w : Word) : w = ri8Word (opField w) (fField w) (imm8Field w) := by
  rw [ri8Word_eq_i12Word, fField_append_imm8Field, ← eq_i12Word]

theorem eq_rrWord (w : Word) : w = rrWord (opField w) (fField w) (hiField w) (loField w) := by
  rw [rrWord_eq_ri8Word, hiField_append_loField, ← eq_ri8Word]

/-- What it is for `i` to be the instruction of `w`: it has a word, and that word is `w`, so that no bit is lost. -/
def StandsFor (e : Bool) (i : Instr) (w : Word) : Prop := WellFormed e i = true ∧ encode i = w

theorem decodeSystem_standsFor (e : Bool) {p : BitVec 12} {w : Word} (hw : w = i12Word 0x1 p) :
    StandsFor e (decodeSystem p) w := by
  subst hw
  unfold decodeSystem
  split_ifs with hret hcpuid hdebug htime
  case neg =>
    refine ⟨?_, rfl⟩
    simpa [WellFormed, isSystemPayload] using ⟨⟨⟨hret, hcpuid⟩, hdebug⟩, htime⟩
  all_goals
    subst p
    exact ⟨rfl, rfl⟩

theorem decodeMemory_standsFor (e : Bool) {f hi lo : BitVec 4} {p : BitVec 8} {w : Word} (hp : hi ++ lo = p)
    (hw : w = rrWord 0x2 f hi lo) : StandsFor e (decodeMemory f hi lo p) w := by
  subst hp hw
  rw [rrWord_eq_ri8Word]
  obtain ⟨⟨n, hn⟩⟩ := f
  interval_cases n
  iterate 3 exact ⟨rfl, rrWord_eq_ri8Word _ _ _ _⟩
  all_goals exact ⟨rfl, rfl⟩

theorem decodeUnary_standsFor (e : Bool) {f hi lo : BitVec 4} {p : BitVec 8} {w : Word} (hp : hi ++ lo = p)
    (hw : w = rrWord 0x5 f hi lo) : StandsFor e (decodeUnary f hi lo p) w := by
  subst hp hw
  rw [rrWord_eq_ri8Word]
  obtain ⟨⟨n, hn⟩⟩ := f
  interval_cases n
  iterate 10 exact ⟨rfl, rfl⟩
  all_goals exact ⟨rfl, rrWord_eq_ri8Word _ _ _ _⟩

theorem decodeBinary_standsFor (e : Bool) {f hi lo : BitVec 4} {p : BitVec 8} {w : Word} (hp : hi ++ lo = p)
    (hw : w = rrWord 0x6 f hi lo) : StandsFor e (decodeBinary e f hi lo p) w := by
  subst hp hw
  obtain ⟨⟨n, hn⟩⟩ := f
  interval_cases n
  -- the first fourteen rows do not depend on the option; `exps` and `root` do
  iterate 14 exact ⟨rfl, rfl⟩
  all_goals
    cases e
    · exact ⟨rfl, (rrWord_eq_ri8Word _ _ _ _).symm⟩
    · exact ⟨rfl, rfl⟩

/-- The four compare flags make up the field they stand in (R316). -/
theorem flagNibble_bits (w : Word) :
    flagNibble (w.getLsbD 11) (w.getLsbD 10) (w.getLsbD 9) (w.getLsbD 8) = fField w := by
  refine BitVec.eq_of_getLsbD_eq fun i hi => ?_
  simp only [flagNibble, BitVec.getLsbD_append]
  interval_cases i <;> simp [fField]

theorem decode_standsFor (e : Bool) (w : Word) : StandsFor e (decode e w) w := by
  have hi12 := eq_i12Word w
  have hri8 := eq_ri8Word w
  have hrr := eq_rrWord w
  have himm8 := hiField_append_loField w
  unfold decode
  generalize opField w = op at hi12 hri8 hrr ⊢
  obtain ⟨⟨n, hn⟩⟩ := op
  interval_cases n
  -- one goal per opcode, in the order of the opcodes; 0xC to 0xF are Illegal
  · exact ⟨rfl, hi12.symm⟩
  · exact decodeSystem_standsFor e hi12
  · exact decodeMemory_standsFor e himm8 hrr
  · exact ⟨rfl, hri8.symm⟩
  · exact ⟨rfl, hri8.symm⟩
  · exact decodeUnary_standsFor e himm8 hrr
  · exact decodeBinary_standsFor e himm8 hrr
  · exact ⟨rfl, hi12.symm⟩
  · exact ⟨rfl, (congrArg (rrWord 0x8 · (hiField w) (loField w)) (flagNibble_bits w)).trans hrr.symm⟩
  · exact ⟨rfl, hri8.symm⟩
  · exact ⟨rfl, hi12.symm⟩
  · exact ⟨rfl, hri8.symm⟩
  all_goals exact ⟨rfl, hi12.symm⟩

/-- Settles O2: each table of the decoder answers an instruction of the word whose fields it is given. -/
theorem encodeOfDecodeIsIdentity : Obligations.EncodeOfDecodeIsIdentity := by
  unfold Obligations.EncodeOfDecodeIsIdentity
  exact decode_standsFor

/-! ### Words of the table -/

/-- A word is decoded by naming the instruction whose word it is. -/
theorem decode_of_encode_eq {e : Bool} {i : Instr} {w : Word} (hwf : WellFormed e i = true) (h : encode i = w) :
    decode e w = i :=
  h ▸ decodeOfEncodeIsIdentity e i hwf

theorem decodes_of_encode_eq {i : Instr} {w : Word} (hwf : ∀ e, WellFormed e i = true) (h : encode i = w) :
    Decodes w i :=
  fun e => decode_of_encode_eq (hwf e) h

/-- The word of the table, given as a number, is the encoder's word from the same fields (R302). -/
theorem rrTableWord_eq_rrWord (op f a b : BitVec 4) :
    rrTableWord (op.toNat * 16 + f.toNat) a b = rrWord op f a b := by
  apply BitVec.eq_of_toNat_eq
  simp only [rrTableWord, rrWord, BitVec.toNat_ofNat, toNat_append_eq_mul_add]
  omega

/-- A row of format RR decodes wherever it exists whatever the option is. -/
theorem decodes_rrTableWord {i : Instr} (op f : BitVec 4) {a b : Reg} (hwf : ∀ e, WellFormed e i = true)
    (h : encode i = rrWord op f a b) : Decodes (rrTableWord (op.toNat * 16 + f.toNat) a b) i :=
  decodes_of_encode_eq hwf (h.trans (rrTableWord_eq_rrWord op f a b).symm)

/-- Settles O3: each word is the one `encode` builds for the instruction it stands for. -/
theorem specWordsDecode : Obligations.SpecWordsDecode := by
  unfold Obligations.SpecWordsDecode
  refine ⟨?_, ?_, ?_, ?_, ?_, ?_, ?_, decode_of_encode_eq rfl rfl, decode_of_encode_eq rfl rfl, ?_, ?_, ?_, ?_, ?_, ?_,
    ?_⟩
  all_goals exact decodes_of_encode_eq (fun _ => rfl) rfl

end Sys2Proof.Proofs
end

section
/-! One step of a core and of the machine (spec/60_exceptions.md sections 1 and 2, spec/65_coordination.md R910): which
check answers it, what it counts, and that it touches and sees no core but its own (spec/20_memory.md R204). -/

namespace Sys2Proof.Proofs

open Sys2Proof.Machine Sys2Proof.Claims

/-! ### The check that answers a core's step -/

theorem stepCore_of_suspended {s : State} (h : s.cur.status = .suspended) :
    stepCore s = .next (s.report (.yield s.cur.yieldLatch)) := by
  rcases stepCore_cases s with ⟨hhalt, -⟩ | ⟨-, hstep⟩ | ⟨hrun, -, -⟩ | ⟨hrun, -, -⟩
  · simp [h] at hhalt
  · exact hstep
  · simp [h] at hrun
  · simp [h] at hrun

theorem stepCore_of_empty {s : State} (h : s.cur.status = .running) (hbudget : s.cur.budget = 0) :
    stepCore s = .next (s.report .timeOut) := by
  rcases stepCore_cases s with ⟨hhalt, -⟩ | ⟨hsusp, -⟩ | ⟨-, -, hstep⟩ | ⟨-, hne, -⟩
  · simp [h] at hhalt
  · simp [h] at hsusp
  · exact hstep
  · exact absurd hbudget hne

theorem stepCore_of_running {s : State} (h : s.cur.status = .running) (hbudget : s.cur.budget ≠ 0) :
    stepCore s = exec s.fetch s := by
  rcases stepCore_cases s with ⟨hhalt, -⟩ | ⟨hsusp, -⟩ | ⟨-, hzero, -⟩ | ⟨-, -, hstep⟩
  · simp [h] at hhalt
  · simp [h] at hsusp
  · exact absurd hzero hbudget
  · exact hstep

/-- Settles O7: the first step reports the yield, and the state it answers is the one every further step answers. -/
theorem suspendedCoreYieldsAgain : Obligations.SuspendedCoreYieldsAgain := by
  unfold Obligations.SuspendedCoreYieldsAgain
  intro s hsusp
  have hfirst := stepCore_of_suspended hsusp
  refine ⟨hfirst, fun hdirect k => ?_⟩
  have hagain : step (s.report (.yield s.cur.yieldLatch)) = .next (s.report (.yield s.cur.yieldLatch)) :=
    (step_of_direct (s := s.report (.yield s.cur.yieldLatch)) hdirect).trans
      (stepCore_of_suspended (s := s.report (.yield s.cur.yieldLatch)) hsusp)
  calc Sys2Proof.core.run (k + 1) s
      = Sys2Proof.core.run k (s.report (.yield s.cur.yieldLatch)) := run_succ ((step_of_direct hdirect).trans hfirst) k
    _ = .next (s.report (.yield s.cur.yieldLatch)) := run_eq_self_of_step hagain k

/-- No instruction reports TimeOut: it is the budget check's own report (R803). -/
theorem exec_result_ne_timeOut {i : Instr} {s t : State} (h : exec i s = .next t) : t.result ≠ some .timeOut := by
  obtain ⟨c, ev, n, m, r, hshape, -, -, hends⟩ := exec_shape i s
  obtain rfl := Host.Outcome.next.inj (hshape.symm.trans h)
  rcases hends with ⟨-, -, rfl⟩ | ⟨-, -, -, -, hr⟩
  · simp
  · simpa using hr

/-- Settles O8: of the four ways to answer a step only the budget check reports TimeOut. -/
theorem timeOutOnlyAtEmptyBudget : Obligations.TimeOutOnlyAtEmptyBudget := by
  unfold Obligations.TimeOutOnlyAtEmptyBudget
  refine ⟨fun s => stepCore_of_empty, fun s t hstep hres => ?_⟩
  rcases stepCore_cases s with ⟨-, heq⟩ | ⟨-, heq⟩ | ⟨hrun, hbudget, -⟩ | ⟨-, -, heq⟩
  · obtain rfl := Host.Outcome.next.inj (heq.symm.trans hstep)
    simp at hres
  · obtain rfl := Host.Outcome.next.inj (heq.symm.trans hstep)
    simp at hres
  · exact ⟨hrun, hbudget⟩
  · exact absurd hres (exec_result_ne_timeOut (heq.symm.trans hstep))

/-! ### What a core's step counts -/

theorem toNat_sub_one_add_one {b : Count} (h : b ≠ 0) : (b - 1).toNat + 1 = b.toNat := by
  have hpos : b.toNat ≠ 0 := fun hz => h (BitVec.eq_of_toNat_eq hz)
  bv_omega

/-- Settles O11: an instruction that is legal retires, by `exec_shape`, and whatever else answers a step leaves counter
and budget as they are. -/
theorem counterCountsExactlyRetires : Obligations.CounterCountsExactlyRetires := by
  unfold Obligations.CounterCountsExactlyRetires
  intro s t hstep
  rcases stepCore_cases s with ⟨hst, heq⟩ | ⟨hst, heq⟩ | ⟨-, hbudget, heq⟩ | ⟨hst, hbudget, heq⟩
  case inr.inr.inr =>
    obtain ⟨c, ev, n, m, r, hshape, -, -, hends⟩ := exec_shape s.fetch s
    obtain rfl := Host.Outcome.next.inj (hshape.symm.trans (heq.symm.trans hstep))
    rcases hends with ⟨hillegal, rfl, -⟩ | ⟨hlegal, hcounter, hpaid, -⟩
    · simp [hillegal]
    · rw [if_pos ⟨hst, hbudget, hlegal⟩]
      simpa [hcounter, hpaid] using toNat_sub_one_add_one hbudget
  all_goals
    obtain rfl := Host.Outcome.next.inj (heq.symm.trans hstep)
    simp_all

/-- Counter and budget move together or not at all. -/
theorem stepCore_counts {s t : State} (h : stepCore s = .next t) :
    (t.cur.counter = s.cur.counter + 1 ∧ t.cur.budget.toNat + 1 = s.cur.budget.toNat) ∨
      (t.cur.counter = s.cur.counter ∧ t.cur.budget = s.cur.budget) := by
  have hcounts := counterCountsExactlyRetires s t h
  split at hcounts
  · exact .inl hcounts
  · exact .inr hcounts

theorem stepCore_budget_le {s t : State} (h : stepCore s = .next t) : t.cur.budget.toNat ≤ s.cur.budget.toNat := by
  rcases stepCore_counts h with ⟨-, hpaid⟩ | ⟨-, hkept⟩
  · omega
  · rw [hkept]

/-! ### Resume -/

@[simp] theorem cur_resume (s : State) : s.resume.cur = s.cur.resume := State.cur_setCur s _

theorem othersKept_resume (s : State) : s.OthersKept s.resume := othersKept_setCur s s.cur.resume

theorem resume_of_not_halted {c : Vm} (h : c.status ≠ .haltedIllegal) : c.resume = { c with status := .running } := by
  cases hst : c.status with
  | running => rw [Vm.resume_running hst, ← hst]
  | suspended => exact Vm.resume_suspended hst
  | haltedIllegal => exact absurd hst h

/-- Settles O47: Resume replaces the executing core by `Vm.resume`, which acts on a SUSPENDED one only. -/
theorem resumeOnlyWakesSuspended : Obligations.ResumeOnlyWakesSuspended := by
  unfold Obligations.ResumeOnlyWakesSuspended
  intro s
  refine ⟨fun hsusp => ?_, State.resume_eq_self⟩
  rw [State.resume, Vm.resume_suspended hsusp]

/-! ### A step of the machine -/

/-- Settles O5: a core's step answers next, and so does what the coordinator makes of it. -/
theorem everyStepAnswersNext : Obligations.EveryStepAnswersNext := by
  unfold Obligations.EveryStepAnswersNext
  intro s
  rcases step_eq_stepCore_or_coordinate s with ⟨-, heq⟩ | ⟨-, heq⟩ <;> rw [heq]
  · exact stepCore_next s
  · obtain ⟨u, hu⟩ := stepCore_next s.resume
    unfold coordinate
    cases s.cstate with
    | dispatch => exact ⟨_, rfl⟩
    | finished o => exact ⟨_, rfl⟩
    | runDriver | runTestee | runPlayer => exact ⟨u.settle, by rw [hu, andThen_next]⟩

theorem step_of_coreTurn {s : State} (h : CoreTurn s) : step s = andThen (stepCore s.resume) State.settle := by
  obtain ⟨hprotocol, hturn⟩ := h
  rcases step_eq_stepCore_or_coordinate s with ⟨hdirect, -⟩ | ⟨-, heq⟩
  · exact absurd hdirect hprotocol
  · rw [heq]
    rcases hturn with hcs | ⟨a, hcs⟩ | ⟨p, a, hcs⟩ <;> simp [coordinate, hcs]

theorem settle_of_not_ending {s : State} (h : s.ending = none) : s.settle = s := by
  simp [State.settle, h]

theorem settle_runDriver {s : State} {o : RunOutcome} (h : s.ending = some o) (hcs : s.cstate = .runDriver) :
    s.settle = s.endDriver o := by
  simp [State.settle, h, hcs]

theorem settle_runTestee {s : State} {allow : Count} {o : RunOutcome} (h : s.ending = some o)
    (hcs : s.cstate = .runTestee allow) : s.settle = s.endTestee allow o := by
  simp [State.settle, h, hcs]

theorem settle_runPlayer {s : State} {p : Nat} {allow : Count} {o : RunOutcome} (h : s.ending = some o)
    (hcs : s.cstate = .runPlayer p allow) : s.settle = s.endTurn p allow o := by
  simp [State.settle, h, hcs]

theorem ending_of_result {s : State} {r : StepResult} (h : s.result = some r) : s.ending = r.outcome := by
  simp [State.ending, h]

/-- What the step of a resumed core keeps: the control state of the machine before the resumption is the one the
coordinator settles. -/
theorem stepCore_resume_cstate {s u : State} (h : stepCore s.resume = .next u) : u.cstate = s.cstate := by
  obtain ⟨-, -, hcs, -⟩ := stepCore_othersKept h
  obtain ⟨-, -, hcs', -⟩ := othersKept_resume s
  exact hcs.trans hcs'

/-- Settles O4: a step of a RUNNING core is `exec`, directly or on the resumed core with `State.settle` after it, and
`settle` of a driver's or judge's run is `State.endDriver`. -/
theorem stepRunsDecodedInstruction : Obligations.StepRunsDecodedInstruction := by
  unfold Obligations.StepRunsDecodedInstruction
  refine ⟨?direct, ?coordinated, ?ends⟩
  case direct =>
    rintro s i hdirect hrun hbudget rfl
    rw [step_of_direct hdirect, stepCore_of_running hrun hbudget]
    rfl
  case coordinated =>
    rintro s i hturn hhalt hbudget rfl
    have hresume : s.resume = s.setCur { s.cur with status := .running } := by
      rw [State.resume, resume_of_not_halted hhalt]
    rw [step_of_coreTurn hturn, hresume, stepCore_of_running (by simp) (by simpa using hbudget)]
    simp [State.fetch, State.fetchWord, Vm.readInstr]
  case ends =>
    intro s u hturn hcore
    have hstep : step s = .next u.settle := by rw [step_of_coreTurn hturn, hcore, andThen_next]
    refine ⟨fun hres => ?_, fun hcs => ?_⟩
    · rcases hres with hres | hres <;> rw [hstep, settle_of_not_ending (ending_of_result hres)]
    · have hcs' : u.cstate = .runDriver := (stepCore_resume_cstate hcore).trans hcs
      refine ⟨fun v hres => ?_, fun hres => ?_, fun hres => ?_⟩
      all_goals
        rw [hstep, settle_runDriver (ending_of_result hres) hcs']
        rfl

/-! ### An instruction and the cores it does not run on -/

/-- Settles O38: whatever an instruction does, by `exec_shape`, it replaces the executing core and nothing else. -/
theorem onlyTheExecutingCoreChanges : Obligations.OnlyTheExecutingCoreChanges := by
  unfold Obligations.OnlyTheExecutingCoreChanges
  intro i s t hexec
  obtain ⟨c, ev, n, m, r, hshape, -⟩ := exec_shape i s
  obtain rfl := Host.Outcome.next.inj (hshape.symm.trans hexec)
  exact othersKept_setCur { s with events := ev, rngCalls := n, freeDraws := m } c

/-- An outcome with the same core and the same result as the other one, where both answer next. -/
def SameEnd (o o' : Host.Outcome State Fault Refusal) : Prop :=
  ∀ t, o = .next t → ∃ t', o' = .next t' ∧ t'.cur = t.cur ∧ t'.result = t.result

/-- Two instructions that retire the same core end alike, whatever else the two machines hold. -/
theorem retire_sameEnd (s s' : State) {c c' : Vm} {next next' : Word} {r r' : StepResult} (hc : c' = c)
    (hnext : next' = next) (hr : r' = r) : SameEnd (s.retire c next r) (s'.retire c' next' r') := by
  subst hc hnext hr
  intro t ht
  obtain rfl := Host.Outcome.next.inj ht
  exact ⟨_, rfl, by simp, by simp⟩

theorem takeIllegal_sameEnd {s s' : State} (h : s'.cur = s.cur) : SameEnd s.takeIllegal s'.takeIllegal := by
  intro t ht
  obtain rfl := Host.Outcome.next.inj ht
  exact ⟨_, rfl, by simp [h], by simp⟩

theorem retireReg_sameEnd {s s' : State} (h : s'.cur = s.cur) (d : Reg) {v v' : Word} (hv : v' = v) :
    SameEnd (s.retireReg d v) (s'.retireReg d v') :=
  retire_sameEnd s s' (by rw [h, hv]) (by rw [h]) rfl

theorem powOp_sameEnd {s s' : State} (h : s'.cur = s.cur) (hdraws : s'.freeDraws = s.freeDraws) (src dst : Reg)
    (y : Word → Word → PowValue) : SameEnd (s.powOp src dst y) (s'.powOp src dst y) := by
  have hvalue : (y (s'.cur.reg dst) (s'.cur.reg src)).word (s16 (s'.cur.reg dst)) (s16 (s'.cur.reg src)) s'.freeDraws =
      (y (s.cur.reg dst) (s.cur.reg src)).word (s16 (s.cur.reg dst)) (s16 (s.cur.reg src)) s.freeDraws := by
    rw [h, hdraws]
  exact retireReg_sameEnd
    (s := { s with freeDraws := s.freeDraws + (y (s.cur.reg dst) (s.cur.reg src)).draws })
    (s' := { s' with freeDraws := s'.freeDraws + (y (s'.cur.reg dst) (s'.cur.reg src)).draws }) h dst hvalue

/-- Settles O39: the value each instruction writes and its next pc are functions of the executing core, the option and
the position in the free values. -/
theorem execSeesOnlyItsCore : Obligations.ExecSeesOnlyItsCore := by
  unfold Obligations.ExecSeesOnlyItsCore
  intro i s s' t hcur hopt hrng hdraws
  refine (?_ : SameEnd (exec i s) (exec i s')) t
  cases i
  case ret | cpuid | debug | time | sw | b | j | jr =>
    exact retire_sameEnd _ _ (by simp [hcur, hopt]) (by simp [hcur]) (by simp [hcur])
  case lw | lwi | lb | lhi | cmp => exact retireReg_sameEnd hcur _ (by simp [hcur])
  case not | popcnt | clz | ctz | mov => exact retireReg_sameEnd hcur _ (by simp [hcur])
  case add | sub | mul | mulh | divu | divs | modu | mods | and | or | xor | shl | shru | shrs =>
    exact retireReg_sameEnd hcur _ (by simp [hcur])
  case rnd rs rd =>
    have hvalue : drawRng s'.rngCalls (s'.cur.reg rs) = drawRng s.rngCalls (s.cur.reg rs) := by rw [hcur, hrng]
    exact retireReg_sameEnd (s := { s with rngCalls := s.rngCalls + 1 })
      (s' := { s' with rngCalls := s'.rngCalls + 1 }) hcur rd hvalue
  case exps | root => exact powOp_sameEnd hcur hdraws _ _ _
  all_goals exact takeIllegal_sameEnd hcur

end Sys2Proof.Proofs
end

section
/-! The invariant of the machine, `State.Inv`: every way a core is replaced keeps its two segments in canonical form,
and every way the control state moves keeps it fitting the protocol (spec/20_memory.md section 4, spec/10_state.md
section 2, spec/65_coordination.md R910, R931, R953). -/

namespace Sys2Proof.Proofs

open Sys2Proof.Machine Sys2Proof.Claims

/-! ### Segments of every core in canonical form -/

/-- Every core of the machine has both segments in canonical form. -/
def CoresWf (s : State) : Prop := s.main.wf = true ∧ s.testee.wf = true ∧ ∀ c ∈ s.players, c.wf = true

theorem vmWf_iff (c : Vm) : c.wf = true ↔ c.imem.wf = true ∧ c.dmem.wf = true := by
  rw [Vm.wf, Bool.and_eq_true]

/-- A core with the IMEM of a sound one and a sound DMEM is sound, whatever its other pieces are. -/
theorem vmWf_of_segments {c d : Vm} (h : c.wf = true) (himem : d.imem = c.imem) (hdmem : d.dmem.wf = true) :
    d.wf = true :=
  (vmWf_iff d).mpr ⟨himem ▸ ((vmWf_iff c).mp h).1, hdmem⟩

/-- A core with the segments of a sound one is sound. -/
theorem vmWf_of_eq {c d : Vm} (h : c.wf = true) (himem : d.imem = c.imem) (hdmem : d.dmem = c.dmem) :
    d.wf = true :=
  vmWf_of_segments h himem (hdmem ▸ ((vmWf_iff c).mp h).2)

theorem dmem_wf {c : Vm} (h : c.wf = true) : c.dmem.wf = true := ((vmWf_iff c).mp h).2

theorem CoresWf.vm {s : State} (h : CoresWf s) (a : Agent) : (s.vm a).wf = true := by
  obtain ⟨hmain, htestee, hplayers⟩ := h
  cases a with
  | main => exact hmain
  | testee => exact htestee
  | player p =>
    by_cases hp : p < s.players.length
    · simpa [State.vm, hp] using hplayers _ (List.getElem_mem hp)
    · simpa [State.vm, hp] using hmain

theorem CoresWf.cur {s : State} (h : CoresWf s) : s.cur.wf = true := h.vm s.agent

/-- The key fact: any core may be replaced by a sound one. -/
theorem CoresWf.setVm {s : State} (h : CoresWf s) (a : Agent) {c : Vm} (hc : c.wf = true) :
    CoresWf (s.setVm a c) := by
  obtain ⟨hmain, htestee, hplayers⟩ := h
  cases a with
  | main => exact ⟨hc, htestee, hplayers⟩
  | testee => exact ⟨hmain, hc, hplayers⟩
  | player p =>
    by_cases hp : p < s.players.length
    · have hset : ∀ d ∈ s.players.set p c, d.wf = true := by
        intro d hd
        rcases List.mem_or_eq_of_mem_set hd with hold | rfl
        · exact hplayers d hold
        · exact hc
      simpa [CoresWf, State.setVm, hp] using ⟨hmain, htestee, hset⟩
    · simpa [CoresWf, State.setVm, hp] using ⟨hc, htestee, hplayers⟩

theorem CoresWf.setCur {s : State} (h : CoresWf s) {c : Vm} (hc : c.wf = true) : CoresWf (s.setCur c) :=
  h.setVm s.agent hc

theorem CoresWf.resume {s : State} (h : CoresWf s) : CoresWf s.resume :=
  h.setCur (vmWf_of_eq h.cur s.cur.resume_imem s.cur.resume_dmem)

theorem CoresWf.exec {i : Instr} {s t : State} (h : CoresWf s) (hexec : exec i s = .next t) : CoresWf t := by
  obtain ⟨c, ev, n, m, r, hshape, himem, hdmem, -⟩ := exec_shape i s
  obtain rfl := Host.Outcome.next.inj (hshape.symm.trans hexec)
  have hc : c.wf = true := vmWf_of_segments h.cur himem (hdmem (dmem_wf h.cur))
  exact CoresWf.setCur (s := { s with events := ev, rngCalls := n, freeDraws := m }) h hc

theorem CoresWf.stepCore {s t : State} (h : CoresWf s) (hstep : stepCore s = .next t) : CoresWf t := by
  rcases stepCore_cases s with ⟨-, heq⟩ | ⟨-, heq⟩ | ⟨-, -, heq⟩ | ⟨-, -, heq⟩
  case inr.inr.inr => exact h.exec (heq.symm.trans hstep)
  all_goals
    obtain rfl := Host.Outcome.next.inj (heq.symm.trans hstep)
    exact h

/-- Every writing transaction keeps every segment in canonical form (R154). -/
theorem CoresWf.access {s : State} (h : CoresWf s) (x : Access) : CoresWf (s.access x) := by
  cases x with
  | writeReg a r v => exact h.setVm a (vmWf_of_eq (h.vm a) rfl rfl)
  | writePc a v => exact h.setVm a (vmWf_of_eq (h.vm a) rfl rfl)
  | writeData a addr v =>
    exact h.setVm a (vmWf_of_segments (h.vm a) rfl (Memory.wf_writeWord (dmem_wf (h.vm a)) addr v))
  | writeBudget a n => exact h.setVm a (vmWf_of_eq (h.vm a) rfl rfl)
  | zeroState a => exact h.setVm a (vmWf_of_segments (h.vm a) rfl Memory.wf_nil)

theorem CoresWf.accessAll {s : State} (h : CoresWf s) (l : List Access) : CoresWf (s.accessAll l) := by
  induction l generalizing s with
  | nil => exact h
  | cons x l ih => exact ih (h.access x)

/-- Main core and testee replaced, the players as they are. -/
theorem CoresWf.of_players_eq {s t : State} (h : CoresWf s) (hmain : t.main.wf = true) (htestee : t.testee.wf = true)
    (hplayers : t.players = s.players) : CoresWf t :=
  ⟨hmain, htestee, hplayers ▸ h.2.2⟩

theorem CoresWf.endDriver {s : State} (h : CoresWf s) (o : RunOutcome) : CoresWf (s.endDriver o) :=
  h.of_players_eq (by simpa using h.1) (by simpa using h.2.1) (by simp)

theorem CoresWf.endTestee {s : State} (h : CoresWf s) (allow : Count) (o : RunOutcome) :
    CoresWf (s.endTestee allow o) :=
  h.of_players_eq (vmWf_of_eq h.1 (by simp) (by simp)) (by simpa using h.2.1) (by simp)

theorem CoresWf.payTurn {s : State} (h : CoresWf s) (p : Nat) (allow : Count) : CoresWf (s.payTurn p allow) := by
  have hdata := judgeDataAfter_wf (dmem_wf h.1) (s.vm (.player p))
  exact h.of_players_eq (vmWf_of_segments h.1 (by simp) (by simpa using hdata)) (by simpa using h.2.1) (by simp)

theorem CoresWf.endTurn {s : State} (h : CoresWf s) (p : Nat) (allow : Count) (o : RunOutcome) :
    CoresWf (s.endTurn p allow o) := by
  have happlied := (h.payTurn p allow).accessAll (Config.judgeR s.main.dmem.judgeOperand s.freeDraws)
  exact happlied.setVm .main (vmWf_of_eq happlied.1 (by simp) (by simp))

theorem CoresWf.settle {s : State} (h : CoresWf s) : CoresWf s.settle := by
  rcases settle_cases s with heq | ⟨o, -, ⟨-, heq⟩ | ⟨allow, -, heq⟩ | ⟨p, allow, -, heq⟩⟩ <;> rw [heq]
  · exact h
  · exact h.endDriver o
  · exact h.endTestee allow o
  · exact h.endTurn p allow o

/-- The requests that copy words or move registers keep every segment in canonical form. -/
theorem CoresWf.request {s t : State} (h : CoresWf s)
    (hreq : t = s.requestRegs ∨ t = s.requestWriteData ∨ t = s.requestReadData ∨ t = s.requestReadInstr ∨
      t = s.requestReset ∨ t = s.requestSetPc) : CoresWf t := by
  obtain ⟨hmain, htestee, -⟩ := id h
  rcases hreq with rfl | rfl | rfl | rfl | rfl | rfl
  · have hdata : s.requestRegs.main.dmem.wf = true := by
      simpa using Memory.wf_writeRegs (dmem_wf hmain) _ _
    exact h.of_players_eq (vmWf_of_segments hmain (by simp) hdata) (vmWf_of_eq htestee (by simp) (by simp)) (by simp)
  · have hdata : s.requestWriteData.testee.dmem.wf = true := by
      simpa using Memory.wf_copy (dmem_wf htestee) _ _ _ _
    exact h.of_players_eq (by simpa using hmain) (vmWf_of_segments htestee (by simp) hdata) (by simp)
  · have hdata : s.requestReadData.main.dmem.wf = true := by
      simpa using Memory.wf_copy (dmem_wf hmain) _ _ _ _
    exact h.of_players_eq (vmWf_of_segments hmain (by simp) hdata) (by simpa using htestee) (by simp)
  · have hdata : s.requestReadInstr.main.dmem.wf = true := by
      simpa using Memory.wf_copy (dmem_wf hmain) _ _ _ _
    exact h.of_players_eq (vmWf_of_segments hmain (by simp) hdata) (by simpa using htestee) (by simp)
  · exact h.of_players_eq (by simpa using hmain) (vmWf_of_segments htestee (by simp) (by simp [Memory.wf_nil]))
      (by simp)
  · exact h.of_players_eq (by simpa using hmain) (vmWf_of_eq htestee (by simp) (by simp)) (by simp)

theorem CoresWf.dispatchRequest {s : State} (h : CoresWf s) : CoresWf s.dispatchRequest := by
  rcases dispatchRequest_cases s with ⟨o, heq⟩ | ⟨-, heq⟩ | ⟨-, -, heq⟩ | ⟨t, heq, hreq⟩ <;> rw [heq]
  · exact h
  · exact h.of_players_eq (by simpa using h.1) (vmWf_of_eq h.2.1 (by simp) (by simp)) (by simp)
  · exact h
  · have hrequest : CoresWf t := h.request hreq
    exact hrequest

theorem CoresWf.dispatchJudge {s : State} (h : CoresWf s) : CoresWf s.dispatchJudge := by
  rcases dispatchJudge_cases s with ⟨o, heq⟩ | ⟨p, -, -, heq⟩ <;> rw [heq]
  · exact h
  · have hplayer := h.vm (.player p)
    exact h.setVm (.player p) (vmWf_of_segments hplayer rfl (scatter_wf _ _ (dmem_wf hplayer)))

theorem CoresWf.dispatch {s : State} (h : CoresWf s) : CoresWf s.dispatch := by
  unfold State.dispatch
  cases s.protocol with
  | direct => exact h
  | testDriver => exact h.dispatchRequest
  | judge => exact h.dispatchJudge

/-! ### A control state that fits the protocol -/

/-- Where no controlled run is in progress a coordinated machine's control state fits. -/
theorem controlOk_of_idle {s : State} (hprotocol : s.protocol ≠ .direct)
    (hidle : s.cstate = .runDriver ∨ s.cstate = .dispatch ∨ ∃ o, s.cstate = .finished o) : s.controlOk = true := by
  cases hp : s.protocol with
  | direct => exact absurd hp hprotocol
  | testDriver | judge => rcases hidle with hcs | hcs | ⟨o, hcs⟩ <;> simp [State.controlOk, hp, hcs]

theorem controlOk_runTestee_iff {s : State} {allow : Count} (hcs : s.cstate = .runTestee allow) :
    s.controlOk = true ↔ s.protocol = .testDriver ∧ s.testee.budget.toNat ≤ allow.toNat ∧
      allow.toNat ≤ s.main.budget.toNat := by
  cases hp : s.protocol <;> simp [State.controlOk, hp, hcs]

theorem controlOk_runPlayer_iff {s : State} {p : Nat} {allow : Count} (hcs : s.cstate = .runPlayer p allow) :
    s.controlOk = true ↔ s.protocol = .judge ∧ p < s.players.length ∧
      (s.vm (.player p)).budget.toNat ≤ allow.toNat ∧ allow.toNat ≤ s.main.budget.toNat := by
  cases hp : s.protocol <;> simp [State.controlOk, hp, hcs, and_assoc]

/-- A run in progress stays within its allowance while its core steps: the step moves no other core's budget and does
not raise its own. -/
theorem controlOk_step {s t : State} (h : s.controlOk = true) (hothers : s.OthersKept t)
    (hbudget : t.cur.budget.toNat ≤ s.cur.budget.toNat) : t.controlOk = true := by
  obtain ⟨hprotocol, -, hcstate, -, hlength, -, hmain, hmain', -⟩ := hothers
  cases hcs : s.cstate with
  | runDriver | dispatch | finished o =>
    have hcs' := hcstate.trans hcs
    cases hp : s.protocol <;> simp_all [State.controlOk]
  | runTestee allow =>
    have hcs' := hcstate.trans hcs
    obtain ⟨hp, hwithin, hcovered⟩ := (controlOk_runTestee_iff hcs).mp h
    have hagent : s.agent = .testee := by simp [State.agent, hcs]
    have hle : t.testee.budget.toNat ≤ s.testee.budget.toNat := by
      simpa [State.cur, State.vm, State.agent, hcs, hcs'] using hbudget
    exact (controlOk_runTestee_iff hcs').mpr ⟨hprotocol.trans hp, hle.trans hwithin, by rwa [hmain hagent]⟩
  | runPlayer p allow =>
    have hcs' := hcstate.trans hcs
    obtain ⟨hp, hlt, hwithin, hcovered⟩ := (controlOk_runPlayer_iff hcs).mp h
    have hagent : s.agent = .player p := by simp [State.agent, hcs]
    have hle : (t.vm (.player p)).budget.toNat ≤ (s.vm (.player p)).budget.toNat := by
      simpa only [State.cur, State.agent, hcs, hcs'] using hbudget
    exact (controlOk_runPlayer_iff hcs').mpr
      ⟨hprotocol.trans hp, hlength ▸ hlt, hle.trans hwithin, by rwa [hmain' p hagent hlt]⟩

theorem endDriver_idle (s : State) (o : RunOutcome) :
    (s.endDriver o).cstate = .dispatch ∨ ∃ o', (s.endDriver o).cstate = .finished o' := by
  cases o with
  | yielded v => exact .inl rfl
  | illegalInstruction | timeOut => exact .inr ⟨_, rfl⟩

/-- The end of a core's run leaves the driver or judge to run, to be dispatched, or finished. -/
theorem controlOk_settle {s : State} (hp : s.protocol ≠ .direct) (h : s.controlOk = true) :
    s.settle.controlOk = true := by
  rcases settle_cases s with heq | ⟨o, -, ⟨-, heq⟩ | ⟨allow, -, heq⟩ | ⟨p, allow, -, heq⟩⟩ <;> rw [heq]
  · exact h
  · exact controlOk_of_idle (by simpa using hp) (.inr (endDriver_idle s o))
  · exact controlOk_of_idle (by simpa using hp) (.inl (by simp))
  · exact controlOk_of_idle (by simpa [State.endTurn] using hp) (.inl (by simp [State.endTurn]))

/-- The allowance of an execute is the driver's budget, clamped by the limit where there is one (R931). -/
theorem toNat_testeeAllowance (s : State) :
    s.testeeAllowance.toNat = match s.testeeLimit with
      | none => s.main.budget.toNat
      | some n => min n.toNat s.main.budget.toNat := by
  unfold State.testeeAllowance
  cases s.testeeLimit with
  | none => rfl
  | some n => exact Nat.mod_eq_of_lt (by omega)

theorem toNat_playerAllowance (s : State) :
    s.playerAllowance.toNat = min s.main.dmem.allottedTime.toNat s.main.budget.toNat :=
  Nat.mod_eq_of_lt (by omega)

theorem controlOk_dispatchRequest {s : State} (hp : s.protocol = .testDriver) :
    s.dispatchRequest.controlOk = true := by
  rcases dispatchRequest_cases s with ⟨o, heq⟩ | ⟨-, heq⟩ | ⟨-, -, heq⟩ | ⟨t, heq, hreq⟩ <;> rw [heq]
  · exact controlOk_of_idle (by simp [hp]) (.inr (.inr ⟨o, rfl⟩))
  · have hcovered : s.testeeAllowance.toNat ≤ s.main.budget.toNat := by
      rw [toNat_testeeAllowance]
      split <;> omega
    exact (controlOk_runTestee_iff (State.beginTestee_cstate s)).mpr (by simpa [hp] using hcovered)
  · exact controlOk_of_idle (by simp [hp]) (.inl rfl)
  · have hprotocol : t.protocol = .testDriver := by rcases hreq with rfl | rfl | rfl | rfl | rfl | rfl <;> simp [hp]
    exact controlOk_of_idle (by simp [hprotocol]) (.inl rfl)

theorem controlOk_dispatchJudge {s : State} (hp : s.protocol = .judge) : s.dispatchJudge.controlOk = true := by
  rcases dispatchJudge_cases s with ⟨o, heq⟩ | ⟨p, -, hlt, heq⟩ <;> rw [heq]
  · exact controlOk_of_idle (by simp [hp]) (.inr (.inr ⟨o, rfl⟩))
  · have hcovered : s.playerAllowance.toNat ≤ s.main.budget.toNat := by
      rw [toNat_playerAllowance]
      omega
    refine (controlOk_runPlayer_iff (p := p) (allow := s.playerAllowance) rfl).mpr ?_
    simpa [hp, State.setVm, State.vm, hlt, State.loadedPlayer] using hcovered

/-! ### The invariant -/

theorem inv_iff (s : State) : s.Inv ↔ CoresWf s ∧ s.testeeLimit ≠ some 0 ∧ s.controlOk = true := by
  simp only [State.Inv, CoresWf, and_assoc]

theorem inv_stepCore {s t : State} (h : s.Inv) (hstep : stepCore s = .next t) : t.Inv := by
  obtain ⟨hcores, hlimit, hcontrol⟩ := (inv_iff s).mp h
  have hothers := stepCore_othersKept hstep
  obtain ⟨-, -, -, hlimit', -⟩ := id hothers
  exact (inv_iff t).mpr
    ⟨hcores.stepCore hstep, hlimit' ▸ hlimit, controlOk_step hcontrol hothers (stepCore_budget_le hstep)⟩

theorem inv_resume {s : State} (h : s.Inv) : s.resume.Inv := by
  obtain ⟨hcores, hlimit, hcontrol⟩ := (inv_iff s).mp h
  exact (inv_iff _).mpr
    ⟨hcores.resume, by simpa [State.resume] using hlimit, controlOk_step hcontrol (othersKept_resume s) (by simp)⟩

theorem inv_settle {s : State} (hp : s.protocol ≠ .direct) (h : s.Inv) : s.settle.Inv := by
  obtain ⟨hcores, hlimit, hcontrol⟩ := (inv_iff s).mp h
  refine (inv_iff _).mpr ⟨hcores.settle, ?_, controlOk_settle hp hcontrol⟩
  rcases settle_cases s with heq | ⟨o, -, ⟨-, heq⟩ | ⟨allow, -, heq⟩ | ⟨p, allow, -, heq⟩⟩ <;> rw [heq]
  all_goals simpa [State.endTurn] using hlimit

/-- Only request 8 changes the limit, and it refuses zero (R938). -/
theorem dispatch_testeeLimit (s : State) :
    s.dispatch.testeeLimit = s.testeeLimit ∨
      (s.protocol = .testDriver ∧ s.main.reg 0 = 8 ∧ s.main.limitOperand ≠ 0 ∧
        s.dispatch.testeeLimit = some s.main.limitOperand) := by
  unfold State.dispatch
  cases hp : s.protocol with
  | direct => exact .inl rfl
  | judge =>
    left
    rcases dispatchJudge_cases s with ⟨o, heq⟩ | ⟨p, -, -, heq⟩ <;> simp [heq]
  | testDriver =>
    rcases dispatchRequest_cases s with ⟨o, heq⟩ | ⟨-, heq⟩ | ⟨hcode, hne, heq⟩ | ⟨t, heq, hreq⟩
    · exact .inl (by simp [heq])
    · exact .inl (by simp [heq])
    · exact .inr ⟨rfl, hcode, hne, by simp [heq]⟩
    · left
      rcases hreq with rfl | rfl | rfl | rfl | rfl | rfl <;> simp [heq]

theorem inv_dispatch {s : State} (h : s.Inv) : s.dispatch.Inv := by
  obtain ⟨hcores, hlimit, hcontrol⟩ := (inv_iff s).mp h
  refine (inv_iff _).mpr ⟨hcores.dispatch, ?_, ?_⟩
  · rcases dispatch_testeeLimit s with heq | ⟨-, -, hne, heq⟩ <;> rw [heq]
    · exact hlimit
    · simpa using hne
  · unfold State.dispatch
    cases hp : s.protocol with
    | direct => exact hcontrol
    | testDriver => exact controlOk_dispatchRequest hp
    | judge => exact controlOk_dispatchJudge hp

/-- Settles O40: a step is a core's step, which moves its own core only, followed by the coordinator's settling, or a
dispatch; each keeps the segments canonical, the limit from zero and the control state fitting. -/
theorem stepKeepsInvariant : Obligations.StepKeepsInvariant := by
  unfold Obligations.StepKeepsInvariant
  intro s t hinv hstep
  rcases step_eq_stepCore_or_coordinate s with ⟨-, heq⟩ | ⟨hp, heq⟩ <;> rw [heq] at hstep
  · exact inv_stepCore hinv hstep
  · rcases coordinate_cases hstep with ⟨-, rfl⟩ | ⟨-, rfl⟩ | ⟨-, -, u, hcore, rfl⟩
    · exact inv_dispatch hinv
    · exact hinv
    · obtain ⟨hprotocol, -⟩ := stepCore_othersKept hcore
      obtain ⟨hprotocol', -⟩ := othersKept_resume s
      have hcoordinated : u.protocol ≠ .direct := by rwa [hprotocol, hprotocol']
      exact inv_settle hcoordinated (inv_stepCore (inv_resume hinv) hcore)

/-! ### The starts -/

theorem vmWf_created {m : Memory} (h : m.wf = true) (n : Count) : (Vm.created m n).wf = true :=
  (vmWf_iff _).mpr ⟨h, Memory.wf_nil⟩

theorem vmWf_withPreamble {c : Vm} (h : c.wf = true) (env : Word) : (c.withPreamble env).wf = true :=
  vmWf_of_segments h rfl (Memory.wf_writeWord (Memory.wf_writeWord (dmem_wf h) _ _) _ _)

/-- Settles O41: the reset state holds two empty cores and a directly run VM. -/
theorem resetMeetsInvariant : Obligations.ResetMeetsInvariant := by
  unfold Obligations.ResetMeetsInvariant
  exact ⟨vmWf_created Memory.wf_nil _, vmWf_created Memory.wf_nil _, nofun, nofun, rfl⟩

/-- Settles O42: a created core with a sound image is sound, with or without its preamble, and the driver or judge is
the first to run. -/
theorem coordinatedStartsMeetInvariant : Obligations.CoordinatedStartsMeetInvariant := by
  unfold Obligations.CoordinatedStartsMeetInvariant
  intro e env d ms n hd hms
  refine ⟨fun m hm => ?_, ?_⟩
  · exact ⟨vmWf_created hd n, vmWf_withPreamble (vmWf_created (hms m hm) 0) 3, nofun, nofun, rfl⟩
  · refine ⟨vmWf_created hd n, vmWf_created Memory.wf_nil 0, fun c hc => ?_, nofun, rfl⟩
    obtain ⟨m, hm, rfl⟩ := List.mem_map.mp hc
    exact vmWf_withPreamble (vmWf_created (hms m hm) 0) env

end Sys2Proof.Proofs
end

section
/-! The shared budget of the test-driver protocol (spec/65_coordination.md R940): `State.ledger` is kept by every step,
so along every run the driver's budget is what the retired instructions have left of the initial one. -/

namespace Sys2Proof.Proofs

open Sys2Proof.Machine Sys2Proof.Claims

/-! ### Runs -/

/-- What every step keeps holds along every run. -/
theorem run_induction {P : State → Prop} (hstep : ∀ s t, P s → step s = .next t → P t) {k : Nat} {s t : State}
    (h : Sys2Proof.core.run k s = .next t) (hs : P s) : P t := by
  induction k generalizing s with
  | zero =>
    obtain rfl := Host.Outcome.next.inj h
    exact hs
  | succ k ih =>
    obtain ⟨u, hu⟩ := everyStepAnswersNext s
    exact ih ((run_succ hu k).symm.trans h) (hstep s u hs hu)

/-! ### The ledger in each control state -/

theorem ledger_of_runTestee {s : State} {allow : Count} (h : s.cstate = .runTestee allow) :
    s.ledger = s.main.budget + s.main.counter + s.testee.counter - (allow - s.testee.budget) := by
  simp [State.ledger, h]

theorem ledger_of_idle {s : State} (h : ∀ allow, s.cstate ≠ .runTestee allow) :
    s.ledger = s.main.budget + s.main.counter + s.testee.counter := by
  cases hcs : s.cstate <;> simp_all [State.ledger]

theorem cur_of_runDriver {s : State} (h : s.cstate = .runDriver) : s.cur = s.main := by
  simp [State.cur, State.agent, State.vm, h]

theorem cur_of_runTestee {s : State} {allow : Count} (h : s.cstate = .runTestee allow) : s.cur = s.testee := by
  simp [State.cur, State.agent, State.vm, h]

/-! ### A core's step -/

/-- What a core's step takes from its budget it adds to its counter. -/
theorem stepCore_balance {s t : State} (h : stepCore s = .next t) :
    t.cur.budget + t.cur.counter = s.cur.budget + s.cur.counter := by
  rcases stepCore_counts h with ⟨hcounter, hbudget⟩ | ⟨hcounter, hbudget⟩
  · bv_omega
  · rw [hcounter, hbudget]

/-- A replacement of the executing core that balances its budget and counter keeps the ledger. -/
theorem ledger_of_othersKept {s t : State} (hturn : s.cstate = .runDriver ∨ ∃ allow, s.cstate = .runTestee allow)
    (hothers : s.OthersKept t) (hbalance : t.cur.budget + t.cur.counter = s.cur.budget + s.cur.counter) :
    t.ledger = s.ledger := by
  obtain ⟨-, -, hcstate, -, -, htestee, hmain, -⟩ := hothers
  rcases hturn with hcs | ⟨allow, hcs⟩
  · have hcs' := hcstate.trans hcs
    have hkept : t.testee = s.testee := htestee (by simp [State.agent, hcs])
    rw [cur_of_runDriver hcs, cur_of_runDriver hcs'] at hbalance
    rw [ledger_of_idle (s := t) (by simp [hcs']), ledger_of_idle (s := s) (by simp [hcs]), hbalance, hkept]
  · have hcs' := hcstate.trans hcs
    have hkept : t.main = s.main := hmain (by simp [State.agent, hcs])
    rw [cur_of_runTestee hcs, cur_of_runTestee hcs'] at hbalance
    rw [ledger_of_runTestee hcs, ledger_of_runTestee hcs', hkept]
    linear_combination hbalance

/-! ### The coordinator -/

/-- What the driver is charged at the end of a testee's run is what the ledger had taken off for it (R931). -/
theorem ledger_endTestee {s : State} {allow : Count} (o : RunOutcome) (h : s.cstate = .runTestee allow) :
    (s.endTestee allow o).ledger = s.ledger := by
  rw [ledger_of_runTestee h, ledger_of_idle (by simp)]
  simp only [State.endTestee_main, State.endTestee_testee, Vm.tellOutcome_budget, Vm.tellOutcome_counter]
  ring

theorem ledger_settle {s : State} (hp : ∀ p allow, s.cstate ≠ .runPlayer p allow) : s.settle.ledger = s.ledger := by
  rcases settle_cases s with heq | ⟨o, -, ⟨hcs, heq⟩ | ⟨allow, hcs, heq⟩ | ⟨p, allow, hcs, -⟩⟩
  · rw [heq]
  · have hidle : ∀ allow, (s.endDriver o).cstate ≠ .runTestee allow := by
      rcases endDriver_idle s o with hcs' | ⟨o', hcs'⟩ <;> simp [hcs']
    rw [heq, ledger_of_idle hidle, ledger_of_idle (by simp [hcs])]
    simp
  · rw [heq, ledger_endTestee o hcs]
  · exact absurd hcs (hp p allow)

/-- No request retires an instruction, and an execute begins with its whole allowance unused (R931). -/
theorem ledger_dispatchRequest {s : State} (h : s.cstate = .dispatch) : s.dispatchRequest.ledger = s.ledger := by
  have hledger := ledger_of_idle (s := s) (by simp [h])
  rcases dispatchRequest_cases s with ⟨o, heq⟩ | ⟨-, heq⟩ | ⟨-, -, heq⟩ | ⟨t, heq, hreq⟩ <;> rw [heq, hledger]
  · rw [ledger_of_idle (by simp)]
    simp
  · rw [ledger_of_runTestee (State.beginTestee_cstate s)]
    simp
  · rw [ledger_of_idle (by simp)]
    simp
  · rw [ledger_of_idle (by simp)]
    rcases hreq with rfl | rfl | rfl | rfl | rfl | rfl <;> simp

/-- What the test-driver protocol keeps at every step: the protocol itself, no player's run, and the ledger. -/
def LedgerIs (total : Count) (s : State) : Prop :=
  s.protocol = .testDriver ∧ (∀ p allow, s.cstate ≠ .runPlayer p allow) ∧ s.ledger = total

theorem ledgerIs_dispatchRequest {total : Count} {s : State} (h : LedgerIs total s) (hcs : s.cstate = .dispatch) :
    LedgerIs total s.dispatchRequest := by
  obtain ⟨hp, -, hledger⟩ := h
  have hkept := (ledger_dispatchRequest hcs).trans hledger
  rcases dispatchRequest_cases s with ⟨o, heq⟩ | ⟨-, heq⟩ | ⟨-, -, heq⟩ | ⟨t, heq, hreq⟩ <;> rw [heq] at hkept ⊢
  · exact ⟨hp, nofun, hkept⟩
  · exact ⟨by simp [hp], by simp, hkept⟩
  · exact ⟨hp, nofun, hkept⟩
  · refine ⟨?_, nofun, hkept⟩
    rcases hreq with rfl | rfl | rfl | rfl | rfl | rfl <;> simp [hp]

theorem ledgerIs_settle {total : Count} {s : State} (h : LedgerIs total s) : LedgerIs total s.settle := by
  obtain ⟨hp, hplayer, hledger⟩ := h
  have hkept := (ledger_settle hplayer).trans hledger
  rcases settle_cases s with heq | ⟨o, -, ⟨hcs, heq⟩ | ⟨allow, hcs, heq⟩ | ⟨p, allow, hcs, -⟩⟩
  · exact heq.symm ▸ ⟨hp, hplayer, hledger⟩
  · rw [heq] at hkept ⊢
    refine ⟨by simpa using hp, ?_, hkept⟩
    rcases endDriver_idle s o with hcs' | ⟨o', hcs'⟩ <;> simp [hcs']
  · rw [heq] at hkept ⊢
    exact ⟨by simpa using hp, by simp, hkept⟩
  · exact absurd hcs (hplayer p allow)

theorem ledgerIs_of_othersKept {total : Count} {s t : State} (h : LedgerIs total s)
    (hturn : s.cstate = .runDriver ∨ ∃ allow, s.cstate = .runTestee allow) (hothers : s.OthersKept t)
    (hbalance : t.cur.budget + t.cur.counter = s.cur.budget + s.cur.counter) : LedgerIs total t := by
  obtain ⟨hp, hplayer, hledger⟩ := h
  obtain ⟨hp', -, hcs, -⟩ := id hothers
  exact ⟨hp'.trans hp, fun p allow => hcs ▸ hplayer p allow,
    (ledger_of_othersKept hturn hothers hbalance).trans hledger⟩

theorem ledgerIs_step {total : Count} {s t : State} (h : LedgerIs total s) (hstep : step s = .next t) :
    LedgerIs total t := by
  obtain ⟨hp, hplayer, -⟩ := id h
  rcases step_eq_stepCore_or_coordinate s with ⟨hdirect, -⟩ | ⟨-, heq⟩
  · simp [hp] at hdirect
  · rw [heq] at hstep
    rcases coordinate_cases hstep with ⟨hcs, rfl⟩ | ⟨-, rfl⟩ | ⟨hdispatch, hfinished, u, hcore, rfl⟩
    · have hrequest : s.dispatch = s.dispatchRequest := by simp [State.dispatch, hp]
      exact hrequest ▸ ledgerIs_dispatchRequest h hcs
    · exact h
    · have hturn : s.cstate = .runDriver ∨ ∃ allow, s.cstate = .runTestee allow := by
        cases hcs : s.cstate <;> simp_all
      have hresume : LedgerIs total s.resume :=
        ledgerIs_of_othersKept h hturn (othersKept_resume s) (by simp)
      have hturn' : s.resume.cstate = .runDriver ∨ ∃ allow, s.resume.cstate = .runTestee allow := by
        simpa [State.resume] using hturn
      exact ledgerIs_settle
        (ledgerIs_of_othersKept hresume hturn' (stepCore_othersKept hcore) (stepCore_balance hcore))

/-- Settles O56: `LedgerIs` is kept by every step, so by every run; at the start the ledger is the initial budget, and
at a dispatch it is the driver's budget and the two counters. -/
theorem sharedBudgetAccounts : Obligations.SharedBudgetAccounts := by
  unfold Obligations.SharedBudgetAccounts
  refine ⟨fun s t hp hplayer hstep => ?_, fun e driver testee initial k s hrun hdispatch => ?_⟩
  · obtain ⟨hp', hplayer', hledger⟩ := ledgerIs_step (total := s.ledger) ⟨hp, hplayer, rfl⟩ hstep
    exact ⟨hledger, hp', hplayer'⟩
  · have hstart : LedgerIs initial (State.startTestDriver e driver testee initial) :=
      ⟨rfl, nofun, by simp [State.startTestDriver, State.ledger, State.fresh, Vm.created, Vm.withPreamble]⟩
    obtain ⟨-, -, hledger⟩ := run_induction (fun _ _ => ledgerIs_step) hrun hstart
    rw [ledger_of_idle (by simp [hdispatch])] at hledger
    linear_combination hledger

end Sys2Proof.Proofs
end

section
/-! The run loop of spec/60_exceptions.md section 5 (R840, R841, R844): an induction on the loop's fuel, which stays
above the executing core's budget, so that the fuel never ends a run. -/

namespace Sys2Proof.Proofs

open Sys2Proof.Machine Sys2Proof.Claims

/-! ### The run state a step leaves -/

/-- The run state after an instruction: `ret` suspends on `x[0]`, an Illegal word halts, any other one leaves the run
state as it is (R405, R820). -/
theorem exec_status_cases (i : Instr) (s : State) :
    ∃ t, exec i s = .next t ∧
      ((i = .ret ∧ t.cur.status = .suspended ∧ t.cur.yieldLatch = s.cur.reg 0) ∨
        (i.isIllegal = true ∧ t.cur.status = .haltedIllegal) ∨
        (i ≠ .ret ∧ i.isIllegal = false ∧ t.cur.status = s.cur.status)) := by
  cases i
  case ret => exact ⟨_, rfl, .inl ⟨rfl, by simp, by simp⟩⟩
  case illOp0 | illOp1 | illOp7 | illOpC | illOpD | illOpE | illOpF =>
    exact ⟨_, rfl, .inr (.inl ⟨rfl, by simp⟩)⟩
  case illOp2_3 | illOp2_4 | illOp2_5 | illOp2_6 | illOp2_7 | illOp2_8 | illOp2_9 | illOp2_A | illOp2_B | illOp2_C |
      illOp2_D | illOp2_E | illOp2_F | illOp5_0 | illOp5_1 | illOp5_2 | illOp5_3 | illOp5_4 | illOp5_5 | illOp5_6 |
      illOp5_7 | illOp5_8 | illOp5_9 | illOp6_E | illOp6_F =>
    exact ⟨_, rfl, .inr (.inl ⟨rfl, by simp⟩)⟩
  all_goals exact ⟨_, rfl, .inr (.inr ⟨nofun, rfl, by simp⟩)⟩

/-- What the core holds where a run ends with outcome `o`: SUSPENDED on the value yielded, or halted. -/
def StoppedAs (o : RunOutcome) (t : State) : Prop :=
  (∀ v, o = .yielded v → t.cur.status = .suspended ∧ t.cur.yieldLatch = v) ∧
    (o = .illegalInstruction → t.cur.status = .haltedIllegal)

theorem stoppedAs_report_illegal {s : State} (h : s.cur.status = .haltedIllegal) :
    StoppedAs .illegalInstruction (s.report .illegalInstruction) :=
  ⟨nofun, fun _ => h⟩

theorem exec_stoppedAs {i : Instr} {s t : State} {o : RunOutcome} (h : exec i s = .next t) (ho : t.ending = some o) :
    StoppedAs o t := by
  obtain ⟨u, hu, hresult⟩ := exec_result_cases i s
  obtain rfl := Host.Outcome.next.inj (hu.symm.trans h)
  obtain ⟨u', hu', hstatus⟩ := exec_status_cases i s
  obtain rfl := Host.Outcome.next.inj (hu'.symm.trans h)
  rcases hresult with ⟨rfl, hr⟩ | ⟨-, hr⟩ | ⟨hne, -, hr⟩ <;> rw [ending_of_result hr] at ho
  · obtain rfl := Option.some.inj ho
    rcases hstatus with ⟨-, hsusp, hlatch⟩ | ⟨hill, -⟩ | ⟨hnot, -⟩
    · exact ⟨fun v hv => ⟨hsusp, hlatch.trans (RunOutcome.yielded.inj hv)⟩, nofun⟩
    · simp [Instr.isIllegal] at hill
    · exact absurd rfl hnot
  · simp [StepResult.outcome] at ho
  · rcases hstatus with ⟨hret, -⟩ | ⟨hill, hhalt⟩ | ⟨-, hlegal, -⟩
    · exact absurd hret hne
    · obtain rfl : RunOutcome.illegalInstruction = o := by simpa [hill, StepResult.outcome] using ho
      exact ⟨nofun, fun _ => hhalt⟩
    · simp [hlegal, StepResult.outcome] at ho

theorem stepCore_stoppedAs {s t : State} {o : RunOutcome} (h : stepCore s = .next t) (ho : t.ending = some o) :
    StoppedAs o t := by
  rcases stepCore_cases s with ⟨hhalt, heq⟩ | ⟨hsusp, heq⟩ | ⟨-, -, heq⟩ | ⟨-, -, heq⟩
  case inr.inr.inr => exact exec_stoppedAs (heq.symm.trans h) ho
  all_goals
    obtain rfl := Host.Outcome.next.inj (heq.symm.trans h)
    obtain rfl := Option.some.inj ho
  · exact stoppedAs_report_illegal hhalt
  · exact ⟨fun v hv => ⟨hsusp, RunOutcome.yielded.inj hv⟩, nofun⟩
  · exact ⟨nofun, nofun⟩

theorem result_of_ending_timeOut {t : State} (h : t.ending = some .timeOut) : t.result = some .timeOut := by
  unfold State.ending at h
  cases hr : t.result with
  | none => simp [hr] at h
  | some r => cases r <;> simp [hr, StepResult.outcome] at h ⊢

/-- A step that a run goes on after has retired an instruction and left the core RUNNING (R407). -/
theorem stepCore_goes_on {s t : State} (h : stepCore s = .next t) (hend : t.ending = none) :
    t.cur.status = .running ∧ t.cur.counter = s.cur.counter + 1 ∧ t.cur.budget.toNat + 1 = s.cur.budget.toNat := by
  rcases stepCore_cases s with ⟨-, heq⟩ | ⟨-, heq⟩ | ⟨-, -, heq⟩ | ⟨hrun, hbudget, heq⟩
  case inr.inr.inr =>
    have hexec := heq.symm.trans h
    have hcounts := counterCountsExactlyRetires s t h
    obtain ⟨u, hu, hresult⟩ := exec_result_cases s.fetch s
    obtain rfl := Host.Outcome.next.inj (hu.symm.trans hexec)
    obtain ⟨u', hu', hstatus⟩ := exec_status_cases s.fetch s
    obtain rfl := Host.Outcome.next.inj (hu'.symm.trans hexec)
    rcases hstatus with ⟨hret, -⟩ | ⟨hill, -⟩ | ⟨-, hlegal, hkept⟩
    · rcases hresult with ⟨-, hr⟩ | ⟨hdebug, -⟩ | ⟨hne, -⟩
      · simp [ending_of_result hr, StepResult.outcome] at hend
      · simp [hret] at hdebug
      · exact absurd hret hne
    · rcases hresult with ⟨hret, -⟩ | ⟨hdebug, -⟩ | ⟨-, -, hr⟩
      · simp [hret, Instr.isIllegal] at hill
      · simp [hdebug, Instr.isIllegal] at hill
      · simp [ending_of_result hr, hill, StepResult.outcome] at hend
    · rw [if_pos ⟨hrun, hbudget, hlegal⟩] at hcounts
      exact ⟨hkept.trans hrun, hcounts⟩
  all_goals
    obtain rfl := Host.Outcome.next.inj (heq.symm.trans h)
    simp [StepResult.outcome] at hend

/-! ### One turn of the loop -/

theorem runLoop_of_halted {s : State} (h : s.cur.status = .haltedIllegal) (fuel : Nat) (limit : Option Nat) :
    runLoop (fuel + 1) limit s = (.illegalInstruction, s.report .illegalInstruction) := by
  rw [runLoop, if_pos h]

theorem runLoop_of_limit_reached {s : State} (h : s.cur.status ≠ .haltedIllegal) (fuel : Nat) :
    runLoop (fuel + 1) (some 0) s = (.timeOut, s) := by
  rw [runLoop, if_neg h, if_pos rfl]

theorem runLoop_of_ending {s t : State} {limit : Option Nat} {o : RunOutcome} (h : s.cur.status ≠ .haltedIllegal)
    (hlimit : limit ≠ some 0) (hstep : stepCore s = .next t) (ho : t.ending = some o) (fuel : Nat) :
    runLoop (fuel + 1) limit s = (o, t) := by
  rw [runLoop, if_neg h, if_neg hlimit, hstep]
  simp only [ho]

theorem runLoop_of_not_ending {s t : State} {limit : Option Nat} (h : s.cur.status ≠ .haltedIllegal)
    (hlimit : limit ≠ some 0) (hstep : stepCore s = .next t) (ho : t.ending = none) (fuel : Nat) :
    runLoop (fuel + 1) limit s = runLoop fuel (limit.map fun n => n - 1) t := by
  rw [runLoop, if_neg h, if_neg hlimit, hstep]
  simp only [ho]

/-! ### The whole run -/

/-- What a run from `s` under `limit` that ends with outcome `o` in `t` has done: it retired as many instructions as
its budget dropped by, at most `limit`, and `o` means what R841 says. -/
def EndsWithin (s : State) (limit : Option Nat) (o : RunOutcome) (t : State) : Prop :=
  t.cur.budget.toNat ≤ s.cur.budget.toNat ∧
  t.cur.counter = s.cur.counter + (s.cur.budget - t.cur.budget) ∧
  (∀ m, limit = some m → s.cur.budget.toNat - t.cur.budget.toNat ≤ m) ∧
  (o = .timeOut → t.cur.budget = 0 ∨ limit = some (s.cur.budget.toNat - t.cur.budget.toNat)) ∧
  StoppedAs o t

/-- A run that retires nothing. -/
theorem endsWithin_of_kept {s t : State} {limit : Option Nat} {o : RunOutcome} (hbudget : t.cur.budget = s.cur.budget)
    (hcounter : t.cur.counter = s.cur.counter) (htimeOut : o = .timeOut → t.cur.budget = 0 ∨ limit = some 0)
    (hstopped : StoppedAs o t) : EndsWithin s limit o t :=
  ⟨by rw [hbudget], by simp [hbudget, hcounter], by simp [hbudget], by simpa [hbudget] using htimeOut, hstopped⟩

/-- A run whose first step retires an instruction, by what the rest of it does. -/
theorem endsWithin_of_retired {s u t : State} {limit : Option Nat} {o : RunOutcome} (hlimit : limit ≠ some 0)
    (hcounter : u.cur.counter = s.cur.counter + 1) (hbudget : u.cur.budget.toNat + 1 = s.cur.budget.toNat)
    (hrest : EndsWithin u (limit.map fun n => n - 1) o t) : EndsWithin s limit o t := by
  obtain ⟨hle, hcount, hwithin, htimeOut, hstopped⟩ := hrest
  have hpaid : u.cur.budget + 1 = s.cur.budget := by
    apply BitVec.eq_of_toNat_eq
    have hlt := s.cur.budget.isLt
    have hone : (1 : Count).toNat = 1 := rfl
    rw [BitVec.toNat_add, hone]
    omega
  refine ⟨by omega, ?_, ?_, ?_, hstopped⟩
  · linear_combination hcount + hcounter + hpaid
  · rintro m rfl
    have hm : m ≠ 0 := fun h => hlimit (h ▸ rfl)
    have hle' := hwithin (m - 1) rfl
    omega
  · intro ho
    rcases htimeOut ho with hzero | hreached
    · exact .inl hzero
    · right
      obtain ⟨m, rfl, hm⟩ := Option.map_eq_some_iff.mp hreached
      have hm' : m ≠ 0 := fun h => hlimit (h ▸ rfl)
      exact congrArg some (by omega)

theorem runLoop_endsWithin {fuel : Nat} {limit : Option Nat} {s : State} (hfuel : s.cur.budget.toNat < fuel) :
    EndsWithin s limit (runLoop fuel limit s).1 (runLoop fuel limit s).2 := by
  induction fuel generalizing limit s with
  | zero => exact absurd hfuel (Nat.not_lt_zero _)
  | succ fuel ih =>
    by_cases hhalt : s.cur.status = .haltedIllegal
    · rw [runLoop_of_halted hhalt]
      exact endsWithin_of_kept rfl rfl nofun (stoppedAs_report_illegal hhalt)
    by_cases hlimit : limit = some 0
    · subst hlimit
      rw [runLoop_of_limit_reached hhalt]
      exact endsWithin_of_kept rfl rfl (fun _ => .inr rfl) ⟨nofun, nofun⟩
    obtain ⟨u, hu⟩ := stepCore_next s
    cases hend : u.ending with
    | none =>
      obtain ⟨-, hcounter, hbudget⟩ := stepCore_goes_on hu hend
      rw [runLoop_of_not_ending hhalt hlimit hu hend]
      exact endsWithin_of_retired hlimit hcounter hbudget (ih (by omega))
    | some o =>
      have hstopped := stepCore_stoppedAs hu hend
      have hempty : o = .timeOut → s.cur.budget = 0 := fun ho =>
        (timeOutOnlyAtEmptyBudget.2 s u hu (result_of_ending_timeOut (ho ▸ hend))).2
      rw [runLoop_of_ending hhalt hlimit hu hend]
      rcases stepCore_counts hu with ⟨hcounter, hbudget⟩ | ⟨hcounter, hbudget⟩
      · refine endsWithin_of_retired hlimit hcounter hbudget (endsWithin_of_kept rfl rfl (fun ho => ?_) hstopped)
        simp [hempty ho] at hbudget
      · exact endsWithin_of_kept hbudget hcounter (fun ho => .inl (hbudget.trans (hempty ho))) hstopped

/-- Settles O46: the loop begins with a fuel one above the budget, on the resumed core, whose budget and counter are
those of the core. -/
theorem runEndsWithinAllowance : Obligations.RunEndsWithinAllowance := by
  unfold Obligations.RunEndsWithinAllowance
  intro s limit o t hrun
  have hends : EndsWithin s.resume limit (s.run limit).1 (s.run limit).2 := runLoop_endsWithin (by simp)
  rw [hrun] at hends
  simpa [EndsWithin, StoppedAs] using hends

end Sys2Proof.Proofs
end

section
/-! The requests of the test-driver protocol (spec/65_coordination.md section 3): one step applies the request that the
driver's `x[0]` selects, and the copies and register transfers are read back word by word, wrapping (R925). -/

namespace Sys2Proof.Proofs

open Sys2Proof.Machine Sys2Proof.Claims

/-! ### Words from an address on -/

theorem wordAt_eq_add (start : Word) (j : Nat) : wordAt start j = start + BitVec.ofNat 16 j := by
  apply BitVec.eq_of_toNat_eq
  simp [wordAt]

theorem wordAt_zero_toNat (w : Word) : wordAt 0 w.toNat = w := by
  simp [wordAt_eq_add]

/-- R925 as the statements put it: a copy moves exactly its words. -/
theorem copied_copy {m : Memory} (h : m.wf = true) (dst : Word) (src : Memory) (srcA : Word) {len : Nat}
    (hlen : len ≤ 65536) : Copied m (m.copy dst src srcA len) src dst srcA len := by
  simpa only [Copied, wordAt_eq_add] using Memory.readWord_copy h dst src srcA hlen

theorem getElem?_map_wrapRange {α : Type} (f : Word → α) {n j : Nat} (h : j < n) :
    ((wrapRange 0 n).map f)[j]? = some (f (wordAt 0 j)) := by
  simp [wrapRange, wordAt_eq_add, h]

theorem length_map_wrapRange {α : Type} (f : Word → α) (start : Word) (n : Nat) :
    ((wrapRange start n).map f).length = n := by
  simp [wrapRange]

/-! ### The step that applies a request -/

/-- What request `code` does once the budget check has passed: the table of `State.dispatchRequest` (R920). -/
def requestEffect (s : State) (code : Word) : State :=
  match code.toNat with
  | 1 => s.beginTestee
  | 2 => s.requestDone
  | 3 => s.requestRegs.toDriver
  | 4 => s.requestWriteData.toDriver
  | 5 => s.requestReadData.toDriver
  | 6 => s.requestReadInstr.toDriver
  | 7 => s.requestReset.toDriver
  | 8 => s.requestLimit
  | 9 => s.requestSetPc.toDriver
  | _ => s.driverError (.unknownRequest code)

theorem step_of_dispatch {s : State} (hp : s.protocol ≠ .direct) (hcs : s.cstate = .dispatch) :
    step s = .next s.dispatch := by
  rcases step_eq_stepCore_or_coordinate s with ⟨hdirect, -⟩ | ⟨-, heq⟩
  · exact absurd hdirect hp
  · rw [heq, coordinate, hcs]

/-- The budget check of a dispatch (R921, R952). -/
theorem dispatch_of_empty {s : State} (hp : s.protocol ≠ .direct) (hbudget : s.main.budget = 0) :
    s.dispatch = s.finish .driverTimeOut := by
  cases hprotocol : s.protocol with
  | direct => exact absurd hprotocol hp
  | testDriver => simp [State.dispatch, hprotocol, State.dispatchRequest, hbudget]
  | judge => simp [State.dispatch, hprotocol, State.dispatchJudge, hbudget]

theorem step_of_dispatches {s : State} {code : Word} (h : Dispatches s code) :
    step s = .next (requestEffect s code) := by
  obtain ⟨hp, hcs, hbudget, rfl⟩ := h
  have hdispatch : s.dispatch = s.dispatchRequest := by simp [State.dispatch, hp]
  rw [step_of_dispatch (by simp [hp]) hcs, hdispatch, State.dispatchRequest, if_neg hbudget]
  rfl

/-- Codes 0 and 10 on name no request (R920). -/
theorem requestEffect_unknown (s : State) {code : Word} (h : code = 0 ∨ 10 ≤ code.toNat) :
    requestEffect s code = s.driverError (.unknownRequest code) := by
  have hrange : code.toNat = 0 ∨ 10 ≤ code.toNat := h.imp_left fun hzero => by rw [hzero]; rfl
  unfold requestEffect
  split
  case h_10 => rfl
  all_goals omega

/-- Settles O48: the budget check, the last row of the request table, and FINISHED, which is its own next state. -/
theorem requestsTurnedAway : Obligations.RequestsTurnedAway := by
  unfold Obligations.RequestsTurnedAway
  intro s hp
  refine ⟨fun hcs hbudget => ?_, fun code hdispatch hcode => ?_, fun o hcs => ?_⟩
  · rw [step_of_dispatch hp hcs, dispatch_of_empty hp hbudget]
    rfl
  · rw [step_of_dispatches hdispatch, requestEffect_unknown s hcode]
    rfl
  · rcases step_eq_stepCore_or_coordinate s with ⟨hdirect, -⟩ | ⟨-, heq⟩
    · exact absurd hdirect hp
    · rw [heq, coordinate, hcs]

/-! ### Request 2 -/

theorem wordAt_zero_toNat_add_one (w : Word) : wordAt 0 (w.toNat + 1) = w + 1 := by
  simp [wordAt, BitVec.ofNat_add]

/-- Settles O54: the magic pair is read after the first `x[1]` words, which are the results. -/
theorem doneChecksTheMagicPair : Obligations.DoneChecksTheMagicPair := by
  unfold Obligations.DoneChecksTheMagicPair
  rintro s n hdispatch rfl
  have hstep : step s = .next s.requestDone := step_of_dispatches hdispatch
  rw [hstep, wordAt_zero_toNat, wordAt_zero_toNat_add_one]
  refine ⟨fun hmagic => ?_, fun hmagic => ?_⟩
  · refine ⟨(wrapRange 0 (s.main.reg 1).toNat).map s.main.readData, ?_, length_map_wrapRange _ _ _,
      fun j => getElem?_map_wrapRange _⟩
    simp only [State.requestDone, if_pos hmagic]
    rfl
  · simp only [State.requestDone, if_neg hmagic]
    rfl

/-! ### Request 3 -/

theorem toDriver_requestRegs (s : State) : s.requestRegs.toDriver = { s with
    testee := { s.testee with x := transferRegs (s.main.reg 1) (s.main.reg 2) s.main s.testee },
    main := { s.main with dmem :=
      s.main.dmem.writeRegs (s.main.reg 2) (transferRegs (s.main.reg 1) (s.main.reg 2) s.main s.testee) },
    cstate := .runDriver } := by
  unfold State.requestRegs State.toDriver
  rfl

/-- Settles O51: `transferRegs` selects by the mask, and `Memory.writeRegs` puts its sixteen words back. -/
theorem registerTransferLoadsThenWritesBack : Obligations.RegisterTransferLoadsThenWritesBack := by
  unfold Obligations.RegisterTransferLoadsThenWritesBack
  intro s hdispatch hwf
  have hstep : step s = .next s.requestRegs.toDriver := step_of_dispatches hdispatch
  rw [toDriver_requestRegs] at hstep
  refine ⟨_, _, hstep, fun i => ?_, ?_⟩
  · simp [transferRegs, wordAt_eq_add]
  · simpa only [wordAt_eq_add, Vm.readData] using Memory.readWord_writeRegs hwf (s.main.reg 2) _

/-! ### Requests 4, 5 and 6 -/

/-- Settles O49: each of the three is one `Memory.copy`, whose words `copied_copy` names. -/
theorem copyRequestsMoveWords : Obligations.CopyRequestsMoveWords := by
  unfold Obligations.CopyRequestsMoveWords
  intro s
  have hlen : (s.main.reg 3).toNat ≤ 65536 := by
    have hlt := (s.main.reg 3).isLt
    omega
  exact ⟨fun hdispatch hwf => ⟨_, step_of_dispatches hdispatch, copied_copy hwf _ _ _ hlen⟩,
    fun hdispatch hwf => ⟨_, step_of_dispatches hdispatch, copied_copy hwf _ _ _ hlen⟩,
    fun hdispatch hwf => ⟨_, step_of_dispatches hdispatch, copied_copy hwf _ _ _ hlen⟩⟩

/-- Settles O50: request 5 reads what request 4 wrote, word by word. -/
theorem writeThenReadGivesWordsBack : Obligations.WriteThenReadGivesWordsBack := by
  unfold Obligations.WriteThenReadGivesWordsBack
  intro s t u hwrite hwfTestee hstep hread hwfMain htestee haddr hlen
  obtain ⟨written, hnext, hwritten, -⟩ := (copyRequestsMoveWords s).1 hwrite hwfTestee
  obtain rfl := Host.Outcome.next.inj (hnext.symm.trans hstep)
  obtain ⟨back, hnext', hback, -⟩ := (copyRequestsMoveWords u).2.1 hread hwfMain
  refine ⟨_, hnext', fun j hj => ?_⟩
  calc back.readWord (wordAt (u.main.reg 1) j)
      = u.testee.dmem.readWord (wordAt (u.main.reg 2) j) := hback j (by rwa [hlen])
    _ = written.readWord (wordAt (s.main.reg 1) j) := by rw [htestee, haddr]
    _ = s.main.dmem.readWord (wordAt (s.main.reg 2) j) := hwritten j hj

/-! ### Requests 7 and 9 -/

theorem reg_zeroState (c : Vm) (r : Reg) : c.zeroState.reg r = 0 := by
  simp [Vm.reg]

theorem readData_zeroState (c : Vm) (a : Word) : c.zeroState.readData a = 0 := by
  simp [Vm.readData]

/-- Settles O52: request 7 leaves `Vm.zeroState`, request 9 the pc alone. -/
theorem resetAndSetPc : Obligations.ResetAndSetPc := by
  unfold Obligations.ResetAndSetPc
  intro s
  refine ⟨fun hdispatch => ⟨s.testee.zeroState, step_of_dispatches hdispatch, reg_zeroState _, readData_zeroState _,
    rfl, rfl, rfl, rfl, rfl, rfl⟩, fun hdispatch => step_of_dispatches hdispatch⟩

/-! ### Request 8 -/

/-- The limit operand as a number: `x[1]` is its most significant word (R938). -/
theorem limitOperand_eq_ofNat (c : Vm) :
    c.limitOperand = BitVec.ofNat 48 ((c.reg 1).toNat * 2 ^ 32 + (c.reg 2).toNat * 2 ^ 16 + (c.reg 3).toNat) := by
  apply BitVec.eq_of_toNat_eq
  have h1 := (c.reg 1).isLt
  have h2 := (c.reg 2).isLt
  have h3 := (c.reg 3).isLt
  rw [Vm.limitOperand, toNat_append_eq_mul_add, toNat_append_eq_mul_add, BitVec.toNat_ofNat]
  omega

theorem ofNat_limit_eq_zero_iff (a b c : Word) :
    BitVec.ofNat 48 (a.toNat * 2 ^ 32 + b.toNat * 2 ^ 16 + c.toNat) = 0 ↔
      a.toNat * 2 ^ 32 + b.toNat * 2 ^ 16 + c.toNat = 0 := by
  have ha := a.isLt
  have hb := b.isLt
  have hc := c.isLt
  rw [← BitVec.toNat_inj, BitVec.toNat_ofNat, Nat.mod_eq_of_lt (by omega)]
  rfl

theorem settle_testeeLimit (s : State) : s.settle.testeeLimit = s.testeeLimit := by
  rcases settle_cases s with heq | ⟨o, -, ⟨-, heq⟩ | ⟨allow, -, heq⟩ | ⟨p, allow, -, heq⟩⟩ <;> rw [heq]
  all_goals simp [State.endTurn]

/-- Only a dispatch can change the limit. -/
theorem step_testeeLimit {s t : State} (h : step s = .next t) :
    t.testeeLimit = s.testeeLimit ∨ (s.protocol ≠ .direct ∧ s.cstate = .dispatch ∧ t = s.dispatch) := by
  rcases step_eq_stepCore_or_coordinate s with ⟨-, heq⟩ | ⟨hp, heq⟩ <;> rw [heq] at h
  · obtain ⟨-, -, -, hlimit, -⟩ := stepCore_othersKept h
    exact .inl hlimit
  · rcases coordinate_cases h with ⟨hcs, rfl⟩ | ⟨-, rfl⟩ | ⟨-, -, u, hcore, rfl⟩
    · exact .inr ⟨hp, hcs, rfl⟩
    · exact .inl rfl
    · obtain ⟨-, -, -, hlimit, -⟩ := stepCore_othersKept hcore
      obtain ⟨-, -, -, hlimit', -⟩ := othersKept_resume s
      exact .inl ((settle_testeeLimit u).trans (hlimit.trans hlimit'))

/-- Settles O53: request 8 stores the operand, no other step touches the limit, and request 1 loads the lesser of the
limit and the driver's budget. -/
theorem timeLimitHoldsUntilReplaced : Obligations.TimeLimitHoldsUntilReplaced := by
  unfold Obligations.TimeLimitHoldsUntilReplaced
  refine ⟨?sets, ?holds, ?loads⟩
  case sets =>
    rintro s n hdispatch rfl
    have hstep : step s = .next s.requestLimit := step_of_dispatches hdispatch
    rw [hstep, State.requestLimit, limitOperand_eq_ofNat]
    refine ⟨fun hzero => ?_, fun hne => ?_⟩
    · rw [if_pos ((ofNat_limit_eq_zero_iff _ _ _).mpr hzero)]
      rfl
    · rw [if_neg fun h => hne ((ofNat_limit_eq_zero_iff _ _ _).mp h)]
      rfl
  case holds =>
    intro s t hstep hchanged
    rcases step_testeeLimit hstep with hkept | ⟨-, hcs, rfl⟩
    · exact absurd hkept hchanged
    · rcases dispatch_testeeLimit s with hkept | ⟨hp, hcode, -, -⟩
      · exact absurd hkept hchanged
      · refine ⟨hp, hcs, fun hbudget => hchanged ?_, hcode⟩
        rw [dispatch_of_empty (by simp [hp]) hbudget, State.finish_testeeLimit]
  case loads =>
    intro s n hdispatch hlimit
    refine ⟨s.testeeAllowance, step_of_dispatches hdispatch, ?_⟩
    rw [toNat_testeeAllowance, hlimit]

end Sys2Proof.Proofs
end

section
/-! Request 1 (spec/65_coordination.md R931): the coordinator's steps of the testee are the iterations of the run loop,
one for one, so that the dispatch and the steps after it come to one whole run, paid and reported. -/

namespace Sys2Proof.Proofs

open Sys2Proof.Machine Sys2Proof.Claims

/-! ### Cores that do not execute, along several steps -/

theorem othersKept_agent {s t : State} (h : s.OthersKept t) : t.agent = s.agent := by
  obtain ⟨-, -, hcstate, -⟩ := h
  simp [State.agent, hcstate]

theorem othersKept_trans {s t u : State} (hst : s.OthersKept t) (htu : t.OthersKept u) : s.OthersKept u := by
  have hagent := othersKept_agent hst
  obtain ⟨hp, he, hc, hl, hn, htestee, hmain, hmain', hplayers⟩ := hst
  obtain ⟨hp', he', hc', hl', hn', htestee', hmain2, hmain2', hplayers'⟩ := htu
  rw [hagent] at htestee' hmain2 hmain2' hplayers'
  rw [hn] at hmain2'
  exact ⟨hp'.trans hp, he'.trans he, hc'.trans hc, hl'.trans hl, hn'.trans hn,
    fun h => (htestee' h).trans (htestee h), fun h => (hmain2 h).trans (hmain h),
    fun p h hlt => (hmain2' p h hlt).trans (hmain' p h hlt), fun q h => (hplayers' q h).trans (hplayers q h)⟩

/-! ### The testee's steps and the run loop -/

/-- A testee about to be stepped that its run loop would step too: not SUSPENDED. -/
def TesteeRuns (s : State) (allow : Count) : Prop :=
  s.protocol = .testDriver ∧ s.cstate = .runTestee allow ∧ s.cur.status ≠ .suspended

theorem testeeRuns_of_othersKept {s t : State} {allow : Count} (h : TesteeRuns s allow) (hothers : s.OthersKept t)
    (hstatus : t.cur.status ≠ .suspended) : TesteeRuns t allow := by
  obtain ⟨hp, hcs, -⟩ := h
  obtain ⟨hp', -, hcs', -⟩ := hothers
  exact ⟨hp'.trans hp, hcs'.trans hcs, hstatus⟩

theorem coreTurn_of_runTestee {s : State} {allow : Count} (hp : s.protocol = .testDriver)
    (hcs : s.cstate = .runTestee allow) : CoreTurn s :=
  ⟨by simp [hp], .inr (.inl ⟨allow, hcs⟩)⟩

theorem step_of_testeeRuns {s u : State} {allow : Count} (h : TesteeRuns s allow) (hcore : stepCore s = .next u) :
    step s = .next u.settle := by
  obtain ⟨hp, hcs, hstatus⟩ := h
  rw [step_of_coreTurn (coreTurn_of_runTestee hp hcs), State.resume_eq_self hstatus, hcore, andThen_next]

/-- The step that ends the testee's run. -/
theorem run_one_of_ending {s u : State} {allow : Count} {o : RunOutcome} (h : TesteeRuns s allow)
    (hcore : stepCore s = .next u) (hend : u.ending = some o) :
    Sys2Proof.core.run 1 s = .next (u.endTestee allow o) := by
  obtain ⟨-, -, hcs, -⟩ := stepCore_othersKept hcore
  rw [run_succ (step_of_testeeRuns h hcore), settle_runTestee hend (hcs.trans h.2.1)]
  rfl

/-- The key fact, by induction on the loop's fuel: where the loop ends in `w` with outcome `o`, the coordinator, after
as many steps as the loop made, has ended the testee's run in the same way; and meanwhile nothing but the testee
moved. -/
theorem run_simulates_runLoop {fuel : Nat} {s : State} {allow : Count} (h : TesteeRuns s allow)
    (hfuel : s.cur.budget.toNat < fuel) :
    ∃ k o w, runLoop fuel none s = (o, w) ∧ Sys2Proof.core.run (k + 1) s = .next (w.endTestee allow o) ∧
      s.OthersKept w := by
  induction fuel generalizing s with
  | zero => exact absurd hfuel (Nat.not_lt_zero _)
  | succ fuel ih =>
    by_cases hhalt : s.cur.status = .haltedIllegal
    · have hcore := stepCore_of_halted hhalt
      exact ⟨0, _, _, runLoop_of_halted hhalt fuel none, run_one_of_ending h hcore rfl, stepCore_othersKept hcore⟩
    obtain ⟨u, hcore⟩ := stepCore_next s
    have hothers := stepCore_othersKept hcore
    cases hend : u.ending with
    | some o =>
      exact ⟨0, o, u, runLoop_of_ending (limit := none) hhalt nofun hcore hend fuel, run_one_of_ending h hcore hend,
        hothers⟩
    | none =>
      obtain ⟨hrun, -, hbudget⟩ := stepCore_goes_on hcore hend
      have hruns : TesteeRuns u allow := testeeRuns_of_othersKept h hothers (by simp [hrun])
      obtain ⟨k, o, w, hloop, hsteps, hothers'⟩ := ih hruns (by omega)
      have hstep : step s = .next u := (step_of_testeeRuns h hcore).trans (by rw [settle_of_not_ending hend])
      have hloop' := (runLoop_of_not_ending (limit := none) hhalt nofun hcore hend fuel).trans hloop
      exact ⟨k + 1, o, w, hloop', (run_succ hstep (k + 1)).trans hsteps,
        othersKept_trans hothers hothers'⟩

/-- The coordinator resumes the testee before its first step, as Run does before the loop (R840, R931). -/
theorem run_simulates_run {s : State} {allow : Count} (hp : s.protocol = .testDriver)
    (hcs : s.cstate = .runTestee allow) :
    ∃ k o w, s.run none = (o, w) ∧ Sys2Proof.core.run (k + 1) s = .next (w.endTestee allow o) ∧ s.OthersKept w := by
  have hresumed : s.resume.cur.status ≠ .suspended := by
    rw [cur_resume]
    exact Vm.resume_status_ne s.cur
  have hruns : TesteeRuns s.resume allow :=
    ⟨by simpa [State.resume] using hp, by simpa [State.resume] using hcs, hresumed⟩
  obtain ⟨k, o, w, hloop, hsteps, hothers⟩ := run_simulates_runLoop hruns (fuel := s.cur.budget.toNat + 1) (by simp)
  obtain ⟨u, hcore⟩ := stepCore_next s.resume
  have hstep : step s = step s.resume := by
    rw [step_of_coreTurn (coreTurn_of_runTestee hp hcs), step_of_testeeRuns hruns hcore, hcore, andThen_next]
  have hsame : Sys2Proof.core.run (k + 1) s = Sys2Proof.core.run (k + 1) s.resume := by
    rw [run_succ (hstep.trans (step_of_testeeRuns hruns hcore)), run_succ (step_of_testeeRuns hruns hcore)]
  exact ⟨k, o, w, hloop, hsame.trans hsteps, othersKept_trans (othersKept_resume s) hothers⟩

/-! ### What the driver is told -/

theorem told_tellOutcome (c : Vm) (o : RunOutcome) : Told c (c.tellOutcome o) o := by
  refine ⟨fun r h0 h1 => by rw [Vm.tellOutcome_reg, if_neg h0, if_neg h1], ?_⟩
  cases o <;> simp [Vm.tellOutcome_reg, outcomeCode]

/-- The allowance is the one the statement names by cases on the limit. -/
theorem eq_testeeAllowance {s : State} {allow : Count} (hnone : s.testeeLimit = none → allow = s.main.budget)
    (hsome : ∀ n, s.testeeLimit = some n → allow.toNat = min n.toNat s.main.budget.toNat) :
    allow = s.testeeAllowance := by
  apply BitVec.eq_of_toNat_eq
  rw [toNat_testeeAllowance]
  cases hlimit : s.testeeLimit with
  | none => rw [hnone hlimit]
  | some n => exact hsome n hlimit

/-- Settles O55: the dispatch loads the allowance, and `run_simulates_run` makes the steps after it one run of the
testee that `State.endTestee` pays and reports. -/
theorem executeTesteeIsOneRun : Obligations.ExecuteTesteeIsOneRun := by
  unfold Obligations.ExecuteTesteeIsOneRun
  intro s allow hdispatch hnone hsome
  obtain rfl := eq_testeeAllowance hnone hsome
  have hstep : step s = .next s.beginTestee := step_of_dispatches hdispatch
  have hcs : s.beginTestee.cstate = .runTestee s.testeeAllowance := State.beginTestee_cstate s
  obtain ⟨k, o, w, hrun, hsteps, hothers⟩ := run_simulates_run ((State.beginTestee_protocol s).trans hdispatch.1) hcs
  obtain ⟨-, -, -, hlimit, -, -, hmain, -⟩ := hothers
  have hdriver : w.main = s.main := (hmain (by simp [State.agent])).trans (State.beginTestee_main s)
  refine ⟨k + 2, w.endTestee s.testeeAllowance o, s.beginTestee, w, o, rfl, hrun, (run_succ hstep (k + 1)).trans hsteps,
    by simp, by simp, by simp, ?_, ?_, ?_, ?_, ?_, ?_⟩
  · simpa using hlimit
  · rw [State.endTestee_main, hdriver]
    exact told_tellOutcome _ o
  all_goals simp [hdriver]

end Sys2Proof.Proofs
end

section
/-! The judge protocol (spec/65_coordination.md section 5): the descriptors of a turn are copies made one after the
other from one segment to another, in either direction, and a turn begins and ends with them (R951 to R953). -/

namespace Sys2Proof.Proofs

open Sys2Proof.Machine Sys2Proof.Claims

/-! ### Copies made one after the other -/

/-- The descriptors applied in order, each copying from `srcOf` of it in `src` to `dstOf` of it in the segment. -/
def copyAll (dstOf srcOf : Descriptor → Word) (src : Memory) : Memory → List Descriptor → Memory
  | dst, [] => dst
  | dst, d :: rest => copyAll dstOf srcOf src (dst.copy (dstOf d) src (srcOf d) d.playerSize.toNat) rest

theorem scatter_eq_copyAll (judge player : Memory) (l : List Descriptor) :
    scatter judge player l = copyAll Descriptor.playerBegin Descriptor.judgeBegin judge player l := by
  induction l generalizing player with
  | nil => rfl
  | cons d rest ih => exact ih _

theorem gather_eq_copyAll (player judge : Memory) (l : List Descriptor) :
    gather player judge l = copyAll Descriptor.judgeBegin Descriptor.playerBegin player judge l := by
  induction l generalizing judge with
  | nil => rfl
  | cons d rest ih => exact ih _

theorem not_covers_iff {start : Word} {len : Nat} {a : Word} :
    ¬Covers start len a ↔ ∀ j, j < len → a ≠ wordAt start j := by
  simp only [Covers, not_exists, not_and, ne_eq]

theorem playerSize_le (d : Descriptor) : d.playerSize.toNat ≤ 65536 := by
  have hlt := d.playerSize.isLt
  omega

section

variable (dstOf srcOf : Descriptor → Word) (src : Memory)

theorem copyAll_outside {l : List Descriptor} {dst : Memory} (hwf : dst.wf = true) {a : Word}
    (h : ∀ d ∈ l, ¬Covers (dstOf d) d.playerSize.toNat a) :
    (copyAll dstOf srcOf src dst l).readWord a = dst.readWord a := by
  induction l generalizing dst with
  | nil => rfl
  | cons d rest ih =>
    obtain ⟨-, hkept⟩ := copied_copy hwf (dstOf d) src (srcOf d) (playerSize_le d)
    have hrest := ih (Memory.wf_copy hwf (dstOf d) src (srcOf d) d.playerSize.toNat)
      fun d' hd' => h d' (List.mem_cons_of_mem d hd')
    exact hrest.trans (hkept a (not_covers_iff.mp (h d List.mem_cons_self)))

/-- A word of one descriptor that no later one covers is the source's. -/
theorem copyAll_last {l : List Descriptor} {dst : Memory} (hwf : dst.wf = true) {i : Nat} {d : Descriptor}
    (hi : l[i]? = some d) {j : Nat} (hj : j < d.playerSize.toNat)
    (hlater : ∀ i' d', i < i' → l[i']? = some d' → ¬Covers (dstOf d') d'.playerSize.toNat (wordAt (dstOf d) j)) :
    (copyAll dstOf srcOf src dst l).readWord (wordAt (dstOf d) j) = src.readWord (wordAt (srcOf d) j) := by
  induction l generalizing dst i with
  | nil => simp at hi
  | cons e rest ih =>
    have hwf' := Memory.wf_copy hwf (dstOf e) src (srcOf e) e.playerSize.toNat
    cases i with
    | zero =>
      obtain rfl : e = d := by simpa using hi
      obtain ⟨hcopied, -⟩ := copied_copy hwf (dstOf e) src (srcOf e) (playerSize_le e)
      have hrest : ∀ d' ∈ rest, ¬Covers (dstOf d') d'.playerSize.toNat (wordAt (dstOf e) j) := by
        intro d' hd'
        obtain ⟨i', hi'⟩ := List.mem_iff_getElem?.mp hd'
        exact hlater (i' + 1) d' (Nat.succ_pos i') hi'
      exact (copyAll_outside dstOf srcOf src hwf' hrest).trans (hcopied j hj)
    | succ i => exact ih hwf' hi fun i' d' hlt hd' => hlater (i' + 1) d' (Nat.succ_lt_succ hlt) hd'

end

/-! ### A judge's dispatch -/

theorem step_of_judgeDispatches {s : State} {p : Word} (h : JudgeDispatches s p) :
    step s = .next (if p = 0xFFFF then s.finish (.judgment s.scores)
      else if p.toNat < s.players.length then s.beginTurn p.toNat else s.driverError .badPlayer) := by
  obtain ⟨hp, hcs, hbudget, rfl⟩ := h
  have hdispatch : s.dispatch = s.dispatchJudge := by simp [State.dispatch, hp]
  rw [step_of_dispatch (by simp [hp]) hcs, hdispatch, State.dispatchJudge, if_neg hbudget]

theorem step_beginTurn {s : State} {p : Word} (h : JudgeDispatches s p) (hjudgment : p ≠ 0xFFFF)
    (hplayer : p.toNat < s.players.length) : step s = .next (s.beginTurn p.toNat) := by
  rw [step_of_judgeDispatches h, if_neg hjudgment, if_pos hplayer]

/-- Settles O57: the scores are the first words of the judge's data, and an index without a player is fatal. -/
theorem judgmentOrBadPlayer : Obligations.JudgmentOrBadPlayer := by
  unfold Obligations.JudgmentOrBadPlayer
  intro s p hdispatch
  rw [step_of_judgeDispatches hdispatch]
  refine ⟨fun hjudgment => ⟨s.scores, ?_, length_map_wrapRange _ _ _, fun j hj => getElem?_map_wrapRange _ hj⟩,
    fun hjudgment hplayer => ?_⟩
  · rw [if_pos hjudgment]
    rfl
  · rw [if_neg hjudgment, if_neg (by omega)]
    rfl

/-! ### The checks before a turn -/

/-- R951 in the words of the table. -/
theorem valid_iff (d : Descriptor) :
    d.valid = true ↔ d.playerEnd - d.playerBegin = d.judgeEnd - d.judgeBegin ∧ d.playerEnd ≠ d.playerBegin ∧
      (d.playerEnd - d.playerBegin).toNat ≤ 0x7FFF := by
  have hempty : d.playerEnd - d.playerBegin ≠ 0 ↔ d.playerEnd ≠ d.playerBegin := sub_ne_zero
  unfold Descriptor.valid Descriptor.playerSize Descriptor.judgeSize
  simp only [Bool.and_eq_true, beq_iff_eq, bne_iff_ne, decide_eq_true_eq, hempty, and_assoc]

theorem toNat_allottedTime (m : Memory) :
    m.allottedTime.toNat = (m.readWord 0).toNat * 2 ^ 48 + (m.readWord 1).toNat * 2 ^ 32 +
      (m.readWord 2).toNat * 2 ^ 16 + (m.readWord 3).toNat := by
  simp only [Memory.allottedTime, toNat_append_eq_mul_add]
  omega

/-- Settles O58: a turn whose descriptors are not all valid, or whose time is zero, is refused before any copy. -/
theorem descriptorsCheckedBeforeUse : Obligations.DescriptorsCheckedBeforeUse := by
  unfold Obligations.DescriptorsCheckedBeforeUse
  intro s p hdispatch hjudgment hplayer
  rw [step_beginTurn hdispatch hjudgment hplayer, State.beginTurn]
  refine ⟨fun ⟨d, hd, hbad⟩ => ?_, fun hgood htime => ?_⟩
  · have hinvalid : ¬(s.main.dmem.writeDescriptors ++ s.main.dmem.readDescriptors).all Descriptor.valid = true := by
      intro hall
      obtain ⟨hsizes, hnonempty, hsmall⟩ := (valid_iff d).mp (List.all_eq_true.mp hall d hd)
      rcases hbad with hdiffer | hempty | hlarge
      · exact hdiffer hsizes
      · exact hnonempty hempty
      · omega
    rw [if_neg hinvalid]
    rfl
  · have hvalid : (s.main.dmem.writeDescriptors ++ s.main.dmem.readDescriptors).all Descriptor.valid = true :=
      List.all_eq_true.mpr fun d hd => (valid_iff d).mpr (hgood d hd)
    have hzero : s.main.dmem.allottedTime = 0 := by
      apply BitVec.eq_of_toNat_eq
      have h0 : s.main.dmem.readWord 0 = 0 := htime 0 (by decide)
      have h1 : s.main.dmem.readWord 1 = 0 := htime 1 (by decide)
      have h2 : s.main.dmem.readWord 2 = 0 := htime 2 (by decide)
      have h3 : s.main.dmem.readWord 3 = 0 := htime 3 (by decide)
      rw [toNat_allottedTime, h0, h1, h2, h3]
      rfl
    rw [if_pos hvalid, if_pos hzero]
    rfl

/-! ### The beginning of a turn -/

theorem vm_player {s : State} {p : Nat} {c : Vm} (h : s.players[p]? = some c) : s.vm (.player p) = c := by
  simp [State.vm, List.getD, h]

/-- Settles O59: the player takes the write descriptors by `scatter` and the lesser of time and budget, and no other
piece of the machine but the control state moves. -/
theorem playerTurnLoadsPlayer : Obligations.PlayerTurnLoadsPlayer := by
  unfold Obligations.PlayerTurnLoadsPlayer
  rintro s p c time hdispatch hjudgment hplayer hwf hvalid rfl htime
  obtain ⟨hlt, -⟩ := List.getElem?_eq_some_iff.mp hplayer
  have hallotted : s.main.dmem.allottedTime ≠ 0 := by
    intro hzero
    apply htime
    exact (toNat_allottedTime s.main.dmem).symm.trans (by rw [hzero]; rfl)
  have hstep : step s = .next { s with
      players := s.players.set p.toNat (s.loadedPlayer p.toNat), cstate := .runPlayer p.toNat s.playerAllowance } := by
    rw [step_beginTurn hdispatch hjudgment hlt, State.beginTurn, if_pos (List.all_eq_true.mpr hvalid), if_neg hallotted]
    simp [State.setVm, hlt]
  rw [State.loadedPlayer, vm_player hplayer] at hstep
  refine ⟨s.playerAllowance, _, hstep, ?allowance, fun a ha => ?outside, fun i d hi j hj hlater => ?covered⟩
  case allowance => rw [toNat_playerAllowance, toNat_allottedTime]; rfl
  case outside =>
    rw [scatter_eq_copyAll]
    exact copyAll_outside _ _ _ hwf fun d hd => not_covers_iff.mpr (ha d hd)
  case covered =>
    rw [scatter_eq_copyAll]
    exact copyAll_last _ _ _ hwf hi hj hlater

/-! ### The end of a turn -/

theorem judgeGains_judgeDataAfter {judge : Memory} (hwf : judge.wf = true) (player : Vm) :
    JudgeGains judge (judgeDataAfter judge player) player := by
  have hgathered := gather_wf player.dmem judge.readDescriptors hwf
  obtain ⟨hregs, hkept⟩ := Memory.readWord_writeRegs hgathered judge.writeBackAddr player.x
  have houtside : ∀ a, ¬Covers judge.writeBackAddr 16 a →
      (judgeDataAfter judge player).readWord a = (gather player.dmem judge judge.readDescriptors).readWord a :=
    fun a ha => hkept a fun i => wordAt_eq_add judge.writeBackAddr i ▸ not_covers_iff.mp ha i i.isLt
  rw [gather_eq_copyAll] at houtside
  refine ⟨fun i => ?_, fun i d hi j hj hlater hfree => ?_, fun a hfree hothers => ?_⟩
  · rw [wordAt_eq_add]
    exact hregs i
  · exact (houtside _ hfree).trans (copyAll_last _ _ _ hwf hi hj hlater)
  · exact (houtside a hfree).trans (copyAll_outside _ _ _ hwf hothers)

/-- Where the player exists its step and its resumption leave the judge alone. -/
theorem main_of_player_step {s u : State} {p : Nat} {allow : Count} (hcs : s.cstate = .runPlayer p allow)
    (hplayer : p < s.players.length) (h : stepCore s.resume = .next u) : u.main = s.main := by
  have hothers := othersKept_trans (othersKept_resume s) (stepCore_othersKept h)
  obtain ⟨-, -, -, -, -, -, -, hmain, -⟩ := hothers
  exact hmain p (by simp [State.agent, hcs]) hplayer

/-- Where JUDGE_R does nothing the judge has paid, holds the player's data and registers, and is told (R953). -/
theorem endTurnWith_nil_judge (u : State) {p : Nat} {player : Vm} (hplayer : u.players[p]? = some player)
    (allow : Count) (o : RunOutcome) :
    ∃ judge : Vm,
      u.endTurnWith p allow o [] = { u with main := judge, cstate := .runDriver, freeDraws := u.freeDraws + 1 } ∧
      judge.budget = u.main.budget - (allow - player.budget) ∧
      judge.dmem = judgeDataAfter u.main.dmem player ∧ Told u.main judge o ∧
      judge = { u.main with x := judge.x, budget := judge.budget, dmem := judge.dmem } := by
  refine ⟨(u.payTurn p allow).main.tellOutcome o, ?_, ?_, ?_, ?_, ?_⟩
  · rw [State.endTurnWith_nil]
    unfold State.payTurn
    rfl
  · simp [vm_player hplayer]
  · simp [vm_player hplayer]
  · rw [State.payTurn_main]
    exact told_tellOutcome _ o
  · cases o <;> simp [Vm.tellOutcome, Vm.setReg]

/-- Settles O60: the step that ends a player's run settles as `State.endTurn`, whose last act is to tell the judge. -/
theorem playerTurnTellsJudge : Obligations.PlayerTurnTellsJudge := by
  unfold Obligations.PlayerTurnTellsJudge
  refine ⟨fun judge player hwf => judgeGains_judgeDataAfter hwf player, ?_⟩
  intro s u p allow o hp hcs hcore hend
  have hstep : step s = .next (u.endTurn p allow o) := by
    rw [step_of_coreTurn ⟨by simp [hp], .inr (.inr ⟨p, allow, hcs⟩)⟩, hcore, andThen_next,
      settle_runPlayer hend ((stepCore_resume_cstate hcore).trans hcs)]
  obtain ⟨-, -, -, -, hlength, -⟩ := othersKept_trans (othersKept_resume s) (stepCore_othersKept hcore)
  refine ⟨_, hstep, by simp [State.endTurn], by simp [State.endTurn, hlength], ?_, ?_, ?_, fun player hplayer => ?_⟩
  · rintro v rfl
    simp [State.endTurn, State.endTurnWith_main, Vm.tellOutcome_reg, outcomeCode]
  · rintro rfl
    simp [State.endTurn, State.endTurnWith_main, Vm.tellOutcome_reg, outcomeCode]
  · rintro rfl
    simp [State.endTurn, State.endTurnWith_main, Vm.tellOutcome_reg, outcomeCode]
  · obtain ⟨hlt, -⟩ := List.getElem?_eq_some_iff.mp hplayer
    have hjudge := main_of_player_step hcs (hlength ▸ hlt) hcore
    exact hjudge ▸ ⟨rfl, endTurnWith_nil_judge u hplayer allow o⟩

end Sys2Proof.Proofs
end

section
/-! Segments as data (spec/20_memory.md R202, R231): a segment in canonical form is determined by what it reads as, an
image is read back byte by byte, and creation leaves an empty data segment (spec/70_reset_and_hazards.md R1000). -/

namespace Sys2Proof.Proofs

open Sys2Proof.Machine Sys2Proof.Claims

/-! ### The canonical form is canonical -/

theorem readByte_beyond {lo : Nat} {m : Memory} (h : Memory.wfFrom lo m = true) {a : Nat} (ha : segmentBytes ≤ a) :
    m.readByte a = unlistedByte := by
  induction m generalizing lo with
  | nil => rfl
  | cons c m ih =>
    obtain ⟨k, v⟩ := c
    simp only [Memory.wfFrom, Bool.and_eq_true, decide_eq_true_eq] at h
    obtain ⟨⟨⟨-, hk⟩, -⟩, hrest⟩ := h
    rw [Memory.readByte, if_neg (by omega)]
    exact ih hrest

/-- The first listed byte of a canonical segment is where it first reads other than an unlisted byte. -/
theorem readByte_head_ne {lo k : Nat} {v : Byte} {m : Memory} (h : Memory.wfFrom lo ((k, v) :: m) = true) :
    Memory.readByte ((k, v) :: m) k ≠ unlistedByte := by
  simp only [Memory.wfFrom, Bool.and_eq_true, decide_eq_true_eq] at h
  obtain ⟨⟨-, hv⟩, -⟩ := h
  simpa [Memory.readByte] using hv

theorem readByte_below_head {lo k : Nat} {v : Byte} {m : Memory} (h : Memory.wfFrom lo ((k, v) :: m) = true) {a : Nat}
    (ha : a < k) : Memory.readByte ((k, v) :: m) a = unlistedByte := by
  simp only [Memory.wfFrom, Bool.and_eq_true, decide_eq_true_eq] at h
  obtain ⟨-, hrest⟩ := h
  rw [Memory.readByte, if_neg (by omega)]
  exact Memory.readByte_below hrest (by omega)

/-- Two canonical segments that read the same at every byte are equal, by comparing their first listed bytes. -/
theorem eq_of_readByte_eq {lo : Nat} {m n : Memory} (hm : Memory.wfFrom lo m = true) (hn : Memory.wfFrom lo n = true)
    (h : ∀ a, m.readByte a = n.readByte a) : m = n := by
  induction m generalizing lo n with
  | nil =>
    cases n with
    | nil => rfl
    | cons d n => exact absurd (h d.1).symm (readByte_head_ne hn)
  | cons c m ih =>
    obtain ⟨k, v⟩ := c
    cases n with
    | nil => exact absurd (h k) (readByte_head_ne hm)
    | cons d n =>
      obtain ⟨k', v'⟩ := d
      obtain rfl : k = k' := by
        by_contra hne
        rcases Nat.lt_or_gt_of_ne hne with hlt | hgt
        · exact readByte_head_ne hm ((h k).trans (readByte_below_head hn hlt))
        · exact readByte_head_ne hn ((h k').symm.trans (readByte_below_head hm hgt))
      obtain rfl : v = v' := by simpa [Memory.readByte] using h k
      simp only [Memory.wfFrom, Bool.and_eq_true, decide_eq_true_eq] at hm hn
      obtain ⟨-, hm⟩ := hm
      obtain ⟨-, hn⟩ := hn
      have htail : ∀ a, Memory.readByte m a = Memory.readByte n a := by
        intro a
        by_cases hka : k = a
        · rw [Memory.readByte_below hm (by omega), Memory.readByte_below hn (by omega)]
        · simpa [Memory.readByte, hka] using h a
      rw [ih hm hn htail]

theorem eq_of_append_eq {a b c d : Byte} (h : (a ++ b : Word) = c ++ d) : a = c ∧ b = d := by
  have hnat := congrArg BitVec.toNat h
  rw [toNat_append_eq_mul_add, toNat_append_eq_mul_add] at hnat
  have hb := b.isLt
  have hd := d.isLt
  exact ⟨BitVec.eq_of_toNat_eq (by omega), BitVec.eq_of_toNat_eq (by omega)⟩

/-- Equal words are equal bytes, inside the segment by R221 and outside it because nothing is listed there. -/
theorem readByte_eq_of_readWord_eq {m n : Memory} (hm : m.wf = true) (hn : n.wf = true)
    (h : ∀ a : Word, m.readWord a = n.readWord a) (a : Nat) : m.readByte a = n.readByte a := by
  by_cases ha : segmentBytes ≤ a
  · rw [readByte_beyond hm ha, readByte_beyond hn ha]
  · have hword : (BitVec.ofNat 16 (a / 2)).toNat = a / 2 :=
      Nat.mod_eq_of_lt (by rw [segmentBytes] at ha; omega)
    obtain ⟨hhigh, hlow⟩ := eq_of_append_eq (h (BitVec.ofNat 16 (a / 2)))
    rw [byteAddr, hword] at hhigh hlow
    rcases Nat.mod_two_eq_zero_or_one a with heven | hodd
    · rwa [show 2 * (a / 2) = a by omega] at hhigh
    · rwa [show 2 * (a / 2) + 1 = a by omega] at hlow

/-- Settles O45: equal words are equal bytes, and equal bytes list the same cells. -/
theorem equalReadsAreEqualSegments : Obligations.EqualReadsAreEqualSegments := by
  unfold Obligations.EqualReadsAreEqualSegments
  intro m n hm hn h
  exact eq_of_readByte_eq hm hn (readByte_eq_of_readWord_eq hm hn h)

/-! ### Images -/

/-- Byte `b` of a segment loaded at byte address `a` is byte `b - a` of the image, 0 past its end (R231). -/
theorem readByte_ofImageFrom {image : List Byte} {a b : Nat} (h : a + image.length ≤ segmentBytes) (hb : a ≤ b) :
    (Memory.ofImageFrom a image).readByte b = image.getD (b - a) 0 := by
  induction image generalizing a with
  | nil => rfl
  | cons v rest ih =>
    rw [List.length_cons] at h
    have hwf := Memory.wfFrom_ofImageFrom rest (a + 1) (by omega)
    rw [Memory.ofImageFrom, Memory.readByte_consCell _ _ _ _ (Memory.readByte_below hwf (by omega))]
    split
    case isTrue hab => simp [hab]
    case isFalse hab =>
      rw [ih (by omega) (by omega), show b - a = b - (a + 1) + 1 by omega, List.getD_cons_succ]

/-- Settles O44: both bytes of a word are read by `readByte_ofImageFrom`, and the length check is that of the loader. -/
theorem createLoadsImage : Obligations.CreateLoadsImage := by
  unfold Obligations.CreateLoadsImage
  intro image n
  refine ⟨fun hfits => ⟨Vm.created (Memory.ofImage image) n, if_pos hfits, rfl, fun a => ?_⟩,
    fun hlong => if_neg (Nat.not_le.mpr hlong)⟩
  have hbytes : ∀ b, (Memory.ofImage image).readByte b = image.getD b 0 := fun b =>
    readByte_ofImageFrom (a := 0) (by rw [segmentBytes]; omega) (Nat.zero_le b)
  change (Memory.ofImage image).readWord a = _
  rw [Memory.readWord, byteAddr, hbytes, hbytes]

/-! ### Creation -/

theorem reg_created (m : Memory) (n : Count) (r : Reg) : (Vm.created m n).reg r = 0 := by
  simp [Vm.reg, Vm.created]

theorem readData_created (m : Memory) (n : Count) (a : Word) : (Vm.created m n).readData a = 0 :=
  Memory.readWord_nil a

/-- Settles O43: each piece of a created core is the one its definition gives, the reset state's main core being
created with an empty segment. -/
theorem creationState : Obligations.CreationState := by
  unfold Obligations.CreationState
  exact ⟨fun m n => ⟨reg_created m n, rfl, readData_created m n, rfl, rfl, rfl, rfl, rfl⟩,
    ⟨Config.initialBudget, rfl⟩, rfl, rfl, rfl⟩

end Sys2Proof.Proofs
end

section
/-! System instructions, memory access and `rnd` (spec/40_system.md, spec/41_memory_access.md, spec/43_unary.md R558):
each ends in one retire phase, whose frame is proved once, or takes IllegalInstruction. -/

namespace Sys2Proof.Proofs

open Sys2Proof.Machine Sys2Proof.Claims

/-! ### The frame of the retire phase and of IllegalInstruction -/

/-- A retiring instruction leaves the core `c` it wrote, retired, on the ports it used; the registers outside `ds` and
the rest of the machine are as before. -/
theorem retire_frame (s : State) (ev : List DebugEvent) (n m : Nat) {c : Vm} (next : Word) (r : StepResult)
    {ds : List Reg} (hregs : ∀ q, q ∉ ds → c.reg q = s.cur.reg q) (hcounter : c.counter = s.cur.counter)
    (hbudget : c.budget = s.cur.budget) :
    ∃ t, ({ s with events := ev, rngCalls := n, freeDraws := m } : State).retire c next r = .next t ∧
      t.cur = c.retire next ∧ (t.events = ev ∧ t.rngCalls = n ∧ t.freeDraws = m) ∧ s.RegsKeptBut t ds ∧
      s.Retired t next r := by
  have hcur := State.cur_setCur { s with events := ev, rngCalls := n, freeDraws := m } (c.retire next)
  refine ⟨_, State.retire_eq _ c next r, hcur, by simp, fun q hq => ?_, ?_⟩
  · simpa [hcur] using hregs q hq
  · have hothers := othersKept_setCur { s with events := ev, rngCalls := n, freeDraws := m } (c.retire next)
    exact ⟨by simp, by simp [hcounter], by simp [hbudget], by simp, hothers⟩

theorem memoryKept_of_cur {s t : State} (himem : t.cur.imem = s.cur.imem) (hdmem : t.cur.dmem = s.cur.dmem) :
    s.MemoryKept t :=
  ⟨fun a => by rw [himem], fun a => by rw [hdmem]⟩

/-- Every instruction of an `ill` row takes IllegalInstruction (R400). -/
theorem exec_of_isIllegal {i : Instr} (h : i.isIllegal = true) (s : State) : exec i s = s.takeIllegal := by
  cases i
  case illOp0 | illOp1 | illOp7 | illOpC | illOpD | illOpE | illOpF => rfl
  case illOp2_3 | illOp2_4 | illOp2_5 | illOp2_6 | illOp2_7 | illOp2_8 | illOp2_9 | illOp2_A | illOp2_B | illOp2_C |
      illOp2_D | illOp2_E | illOp2_F | illOp5_0 | illOp5_1 | illOp5_2 | illOp5_3 | illOp5_4 | illOp5_5 | illOp5_6 |
      illOp5_7 | illOp5_8 | illOp5_9 | illOp6_E | illOp6_F =>
    rfl
  all_goals simp [Instr.isIllegal] at h

theorem haltsIllegal_of_isIllegal {i : Instr} (h : i.isIllegal = true) (s : State) : HaltsIllegal i s := by
  have hcur := State.cur_setCur s { s.cur with status := .haltedIllegal }
  refine ⟨_, (exec_of_isIllegal h s).trans s.takeIllegal_eq, ?_⟩
  rw [State.report_cur, hcur]
  refine ⟨rfl, rfl, fun q _ => ?regs, memoryKept_of_cur ?imem ?dmem, rfl, rfl, rfl, rfl, ?ports, ?others⟩
  case regs =>
    rw [State.report_cur, hcur]
    rfl
  case imem | dmem => rw [State.report_cur, hcur]
  case ports => simp [State.PortsKept]
  case others => exact othersKept_report s _ _ (othersKept_setCur s _)

/-- Settles O16: the thirty-two forms are Illegal instructions, which all take the one fault. -/
theorem illegalWordsHalt : Obligations.IllegalWordsHalt := by
  unfold Obligations.IllegalWordsHalt
  intro p q s i hi
  have hall : (illegalForms p q).all Instr.isIllegal = true := rfl
  exact haltsIllegal_of_isIllegal (List.all_eq_true.mp hall i hi) s

/-! ### `ret`, `debug` and `time` -/

/-- Settles O12: `ret` retires the core with its latch and run state written. -/
theorem retSuspendsAndYields : Obligations.RetSuspendsAndYields := by
  unfold Obligations.RetSuspendsAndYields
  refine ⟨decodes_of_encode_eq (fun _ => rfl) rfl, fun s => ?_⟩
  obtain ⟨t, hexec, hcur, hports, hregs, hretired⟩ := retire_frame s s.events s.rngCalls s.freeDraws (ds := [])
    (c := { s.cur with yieldLatch := s.cur.reg 0, status := .suspended }) (s.cur.pc + 1) (.yield (s.cur.reg 0))
    (fun _ _ => rfl) rfl rfl
  exact ⟨t, hexec, by simp [hcur], by simp [hcur], hregs, memoryKept_of_cur (by simp [hcur]) (by simp [hcur]), hports,
    hretired⟩

/-- Settles O14: `debug` appends the snapshot and retires the core as it is. -/
theorem debugEmitsOneEvent : Obligations.DebugEmitsOneEvent := by
  unfold Obligations.DebugEmitsOneEvent
  refine ⟨decodes_of_encode_eq (fun _ => rfl) rfl, fun s => ?_⟩
  obtain ⟨t, hexec, hcur, ⟨hevents, hrng, hdraws⟩, hregs, hretired⟩ :=
    retire_frame s (s.events ++ [s.cur.snapshot]) s.rngCalls s.freeDraws (ds := []) (c := s.cur) (s.cur.pc + 1)
      .debugDump (fun _ _ => rfl) rfl rfl
  exact ⟨t, hexec, hevents, hrng, hdraws, hregs, memoryKept_of_cur (by simp [hcur]) (by simp [hcur]),
    ⟨by simp [hcur], by simp [hcur]⟩, hretired⟩

/-- The four words of a 64-bit count, most significant first (R420). -/
theorem toNat_countWords (c : Count) :
    (c.extractLsb' 48 16).toNat * 2 ^ 48 + (c.extractLsb' 32 16).toNat * 2 ^ 32 +
      (c.extractLsb' 16 16).toNat * 2 ^ 16 + (c.extractLsb' 0 16).toNat = c.toNat := by
  have hlt := c.isLt
  simp only [BitVec.extractLsb'_toNat, Nat.shiftRight_eq_div_pow]
  omega

/-- Settles O15: `time` writes the counter's four words by the frame of `x[0] .. x[3]`. -/
theorem timeReadsCounter : Obligations.TimeReadsCounter := by
  unfold Obligations.TimeReadsCounter
  refine ⟨decodes_of_encode_eq (fun _ => rfl) rfl, fun s => ?_⟩
  obtain ⟨t, hexec, h0, h1, h2, h3, hrest⟩ := retire_setRegs03_frame s (s.cur.counter.extractLsb' 48 16)
    (s.cur.counter.extractLsb' 32 16) (s.cur.counter.extractLsb' 16 16) (s.cur.counter.extractLsb' 0 16) s.cur.nextPc
    .continued
  exact ⟨t, hexec, by rw [h0, h1, h2, h3, toNat_countWords], hrest⟩

/-! ### Loads and stores -/

/-- What `sw` leaves: the core with one word of its data written, retired. -/
theorem exec_sw_frame (s : State) (ra rv : Reg) :
    ∃ t, exec (.sw ra rv) s = .next t ∧
      t.cur = (s.cur.writeData (s.cur.reg ra) (s.cur.reg rv)).retire (s.cur.pc + 1) ∧ s.PortsKept t ∧
      s.RegsKeptBut t [] ∧ s.Retired t (s.cur.pc + 1) .continued :=
  retire_frame s s.events s.rngCalls s.freeDraws (s.cur.pc + 1) .continued (fun _ _ => rfl) rfl rfl

/-- Settles O17: the two bytes of the word are read back by `Memory.readByte_writeWord`. -/
theorem storeWritesOneWord : Obligations.StoreWritesOneWord := by
  unfold Obligations.StoreWritesOneWord
  intro s ra rv
  refine ⟨decodes_rrTableWord 0x2 0x0 (fun _ => rfl) rfl, ?_⟩
  obtain ⟨t, hexec, hcur, hports, hregs, hretired⟩ := exec_sw_frame s ra rv
  refine ⟨t, hexec, fun hwf => ?value, fun a => by simp [hcur], hregs, ⟨by simp [hcur], by simp [hcur]⟩, hports,
    hretired⟩
  have hdata : t.cur.dmem = s.cur.dmem.writeWord (s.cur.reg ra) (s.cur.reg rv) := by simp [hcur]
  rw [hdata]
  refine ⟨?_, ?_, fun a hhigh hlow => ?_⟩
  · rw [Memory.readByte_writeWord hwf, byteAddr, if_neg (by omega), if_pos rfl]
  · rw [Memory.readByte_writeWord hwf, byteAddr, if_pos rfl]
  · rw [Memory.readByte_writeWord hwf, byteAddr, if_neg (Ne.symm hlow), if_neg (Ne.symm hhigh)]

/-- A word is 256 times its high byte plus its low byte (R221). -/
theorem toNat_readWord (m : Memory) (a : Word) :
    (m.readWord a).toNat = 256 * (m.readByte (2 * a.toNat)).toNat + (m.readByte (2 * a.toNat + 1)).toNat := by
  rw [Memory.readWord, byteAddr, toNat_append_eq_mul_add]
  omega

theorem writesReg_lw (s : State) (ra rd : Reg) :
    WritesReg (.lw ra rd) s rd (s.cur.dmem.readWord (s.cur.reg ra)) :=
  writesReg_of_exec_eq_retireReg rfl

theorem writesReg_lwi (s : State) (ra rd : Reg) :
    WritesReg (.lwi ra rd) s rd (s.cur.imem.readWord (s.cur.reg ra)) :=
  writesReg_of_exec_eq_retireReg rfl

/-- Settles O18: both loads end in `retireReg` with the word of their segment, whose number is `toNat_readWord`. -/
theorem loadsReadOneWord : Obligations.LoadsReadOneWord := by
  unfold Obligations.LoadsReadOneWord
  intro s ra rd
  exact ⟨decodes_rrTableWord 0x2 0x1 (fun _ => rfl) rfl, decodes_rrTableWord 0x2 0x2 (fun _ => rfl) rfl,
    ⟨_, writesReg_lw s ra rd, toNat_readWord _ _⟩, ⟨_, writesReg_lwi s ra rd, toNat_readWord _ _⟩⟩

/-- Settles O19: the load reads the segment that the store wrote, at the same or at another word. -/
theorem loadSeesLastStore : Obligations.LoadSeesLastStore := by
  unfold Obligations.LoadSeesLastStore
  intro s t ra rv rb rd hwf hstore
  obtain ⟨t', hexec, hcur, -, hregs, -⟩ := exec_sw_frame s ra rv
  obtain rfl := Host.Outcome.next.inj (hexec.symm.trans hstore)
  obtain ⟨u, hload, hvalue, -⟩ := writesReg_lw t' rb rd
  refine ⟨u, hload, hvalue.trans ?_⟩
  rw [hregs rb (List.not_mem_nil), hcur, Vm.retire_dmem, Vm.writeData_dmem]
  split
  case isTrue hsame => rw [hsame, Memory.readWord_writeWord_same hwf]
  case isFalse hother => exact Memory.readWord_writeWord_ne hwf (Ne.symm hother) _

/-! ### `rnd` -/

/-- The draw is reduced into the range of its bound (log entry 5). -/
theorem toNat_drawRng_le (n : Nat) (bound : Word) : (drawRng n bound).toNat ≤ bound.toNat := by
  have hlt := Nat.mod_lt (Config.rng n bound).toNat (show 0 < bound.toNat + 1 by omega)
  have hbound := bound.isLt
  rw [drawRng, BitVec.toNat_ofNat, Nat.mod_eq_of_lt (by omega)]
  omega

/-- Settles O24: `rnd` retires with the draw in its destination and one more call of the port. -/
theorem rndStaysWithinBound : Obligations.RndStaysWithinBound := by
  unfold Obligations.RndStaysWithinBound
  intro s rs rd
  obtain ⟨t, hexec, hcur, ⟨hevents, hrng, hdraws⟩, hregs, hretired⟩ :=
    retire_frame s s.events (s.rngCalls + 1) s.freeDraws (ds := [rd])
      (c := s.cur.setReg rd (drawRng s.rngCalls (s.cur.reg rs))) (s.cur.pc + 1) .continued
      (fun q hq => Vm.reg_setReg_ne s.cur _ (by simpa using hq)) rfl rfl
  have hdraw : t.cur.reg rd = drawRng s.rngCalls (s.cur.reg rs) := by simp [hcur]
  exact ⟨decodes_rrTableWord 0x5 0xE (fun _ => rfl) rfl, t, hexec, hdraw, hdraw ▸ toNat_drawRng_le _ _, hrng, hevents,
    hdraws, hregs, memoryKept_of_cur (by simp [hcur]) (by simp [hcur]), ⟨by simp [hcur], by simp [hcur]⟩, hretired⟩

/-! ### The constant pair -/

theorem step_of_decodes {s : State} {w : Word} {i : Instr} (hdirect : s.protocol = .direct)
    (hrun : s.cur.status = .running) (hbudget : s.cur.budget ≠ 0) (hfetch : s.cur.readInstr s.cur.pc = w)
    (hdecodes : Decodes w i) : step s = exec i s :=
  stepRunsDecodedInstruction.1 s i hdirect hrun hbudget (hfetch ▸ hdecodes s.expRootEnabled)

/-- Settles O22: the first step leaves the low byte and a RUNNING core with budget left at the next word, the second
puts the high byte above it. -/
theorem pairLoadsAnyConstant : Obligations.PairLoadsAnyConstant := by
  unfold Obligations.PairLoadsAnyConstant
  intro s r lo hi hdirect hrun hbudget hfirst hsecond
  obtain ⟨hdecodesLb, v, ⟨t, hlb, hv, -, ⟨himem, -⟩, ⟨hstatus, -⟩, -, hpc, hcounter, hpaid, -, hothers⟩, hvNat⟩ :=
    loadLowSignExtends s r lo
  obtain ⟨hdecodesLhi, w, ⟨u, hlhi, hw, -, -, -, -, hpc', hcounter', -⟩, hwNat⟩ := loadHighKeepsLowByte t r hi
  have hstep : step s = .next t :=
    (step_of_decodes hdirect hrun (by bv_omega) hfirst hdecodesLb).trans hlb
  have hfetch : t.cur.readInstr t.cur.pc = riTableWord 0x4 r hi := by
    rw [hpc, ← hsecond]
    exact himem.readWord _
  have hstep' : step t = .next u :=
    (step_of_decodes (hothers.1.trans hdirect) (hstatus.trans hrun) (by bv_omega) hfetch hdecodesLhi).trans hlhi
  refine ⟨u, (run_succ hstep 1).trans (run_succ hstep' 0), ?_, ?_, ?_⟩
  · have hlo := lo.isLt
    rw [hw, hwNat, hv, hvNat]
    split <;> omega
  · rw [hcounter', hcounter]
    ring
  · rw [hpc', hpc]
    ring

end Sys2Proof.Proofs
end

section
/-! The values of the unary, binary and compare instructions (spec/43_unary.md, spec/44_binary.md sections 2 to 4,
spec/45_compare.md): each instruction ends in `retireReg`, so what is left is what its value function says as a number,
as an integer or bit by bit. -/

namespace Sys2Proof.Proofs

open Sys2Proof.Machine Sys2Proof.Claims

theorem toNat_u16 (i : Int) : ((u16 i).toNat : Int) = i % 65536 := by
  rw [u16, BitVec.toNat_ofInt]
  omega

/-- `u16` of an integer in the signed range reads back as it. -/
theorem toInt_u16 {i : Int} (hlow : -32768 ≤ i) (hhigh : i ≤ 32767) : (u16 i).toInt = i :=
  BitVec.toInt_ofInt_eq_self (by decide) (by omega) (by omega)

theorem toInt_range (w : Word) : -32768 ≤ w.toInt ∧ w.toInt ≤ 32767 := by
  have hlow := BitVec.le_toInt w
  have hhigh := BitVec.toInt_lt (x := w)
  omega

/-! ### Addition, subtraction, multiplication -/

theorem toNat_addValue (a b : Word) : (addValue a b).toNat = (a.toNat + b.toNat) % 65536 := by
  have hvalue := toNat_u16 (a.toNat + b.toNat)
  rw [addValue]
  omega

theorem toNat_subValue (a b : Word) : (subValue a b).toNat = (a.toNat + 65536 - b.toNat) % 65536 := by
  have hvalue := toNat_u16 (a.toNat - b.toNat)
  have hb := b.isLt
  rw [subValue]
  omega

theorem toNat_mulValue (a b : Word) : (mulValue a b).toNat = a.toNat * b.toNat % 65536 :=
  BitVec.toNat_ofNat _ _

theorem toNat_mulhValue (a b : Word) : (mulhValue a b).toNat = a.toNat * b.toNat / 65536 := by
  have hlt : a.toNat * b.toNat < 65536 * 65536 := Nat.mul_lt_mul'' a.isLt b.isLt
  rw [mulhValue, BitVec.toNat_ofNat, Nat.mod_eq_of_lt (by omega)]

/-- Settles O25: the four value functions as numbers. -/
theorem addSubMulModulo : Obligations.AddSubMulModulo := by
  unfold Obligations.AddSubMulModulo
  intro s rs rd
  exact ⟨decodes_rrTableWord 0x6 0x0 (fun _ => rfl) rfl, decodes_rrTableWord 0x6 0x1 (fun _ => rfl) rfl,
    decodes_rrTableWord 0x6 0x2 (fun _ => rfl) rfl, decodes_rrTableWord 0x6 0x3 (fun _ => rfl) rfl,
    ⟨_, writesReg_of_exec_eq_retireReg rfl, toNat_addValue _ _⟩,
    ⟨_, writesReg_of_exec_eq_retireReg rfl, toNat_subValue _ _⟩,
    ⟨_, writesReg_of_exec_eq_retireReg rfl, toNat_mulValue _ _⟩,
    ⟨_, writesReg_of_exec_eq_retireReg rfl, toNat_mulhValue _ _⟩⟩

/-! ### Division -/

theorem toNat_divuValue (a : Word) {b : Word} (h : b ≠ 0) : (divuValue a b).toNat = a.toNat / b.toNat := by
  have hle := Nat.div_le_self a.toNat b.toNat
  have ha := a.isLt
  rw [divuValue, if_neg h, BitVec.toNat_ofNat, Nat.mod_eq_of_lt (by omega)]

theorem toNat_moduValue (a : Word) {b : Word} (h : b ≠ 0) : (moduValue a b).toNat = a.toNat % b.toNat := by
  have hle := Nat.mod_le a.toNat b.toNat
  have ha := a.isLt
  rw [moduValue, if_neg h, BitVec.toNat_ofNat, Nat.mod_eq_of_lt (by omega)]

theorem toNat_pos_of_ne_zero {b : Word} (h : b ≠ 0) : 0 < b.toNat :=
  Nat.pos_of_ne_zero fun hzero => h (BitVec.eq_of_toNat_eq hzero)

/-- Settles O26: away from a zero divisor the two values are quotient and remainder of the numbers. -/
theorem unsignedDivision : Obligations.UnsignedDivision := by
  unfold Obligations.UnsignedDivision
  intro s rs rd
  refine ⟨decodes_rrTableWord 0x6 0x4 (fun _ => rfl) rfl, decodes_rrTableWord 0x6 0x6 (fun _ => rfl) rfl,
    divuValue (s.cur.reg rd) (s.cur.reg rs), moduValue (s.cur.reg rd) (s.cur.reg rs),
    writesReg_of_exec_eq_retireReg rfl, writesReg_of_exec_eq_retireReg rfl, fun hzero => ?_, fun hne => ?_⟩
  · exact ⟨if_pos hzero, if_pos hzero⟩
  · rw [toNat_divuValue _ hne, toNat_moduValue _ hne]
    exact ⟨(Nat.div_add_mod _ _).symm, Nat.mod_lt _ (toNat_pos_of_ne_zero hne)⟩

/-- The floor remainder lies between 0 and the divisor, on the divisor's side (R616). -/
theorem fmod_range (a : Int) {b : Int} (h : b ≠ 0) : 0 ≤ a.fmod b ∧ a.fmod b < b ∨ b < a.fmod b ∧ a.fmod b ≤ 0 := by
  have hnonneg := Int.emod_nonneg a h
  rcases Int.lt_or_gt_of_ne h with hneg | hpos
  · have hlt := Int.emod_lt_of_neg a hneg
    rw [Int.fmod_eq_emod]
    split
    case isTrue hdvd =>
      have hzero : a % b = 0 := Int.emod_eq_zero_of_dvd (hdvd.resolve_left (by omega))
      omega
    case isFalse hndvd =>
      have hne : a % b ≠ 0 := fun hzero => hndvd (.inr (Int.dvd_of_emod_eq_zero hzero))
      omega
  · have hlt := Int.emod_lt_of_pos a hpos
    rw [Int.fmod_eq_emod, if_pos (.inl hpos.le)]
    omega

theorem s16_eq_zero_iff (w : Word) : s16 w = 0 ↔ w = 0 := by
  rw [s16, ← BitVec.toInt_inj]
  rfl

/-- Settles O27: floor division over the integers; the remainder fits a word, the quotient wraps. -/
theorem signedFloorDivision : Obligations.SignedFloorDivision := by
  unfold Obligations.SignedFloorDivision
  intro s rs rd
  refine ⟨decodes_rrTableWord 0x6 0x5 (fun _ => rfl) rfl, decodes_rrTableWord 0x6 0x7 (fun _ => rfl) rfl,
    divsValue (s.cur.reg rd) (s.cur.reg rs), modsValue (s.cur.reg rd) (s.cur.reg rs),
    writesReg_of_exec_eq_retireReg rfl, writesReg_of_exec_eq_retireReg rfl, fun hzero => ?_, fun hne => ?_⟩
  · have hzero' := (s16_eq_zero_iff _).mpr hzero
    exact ⟨if_pos hzero', if_pos hzero'⟩
  · have hne' : s16 (s.cur.reg rs) ≠ 0 := fun hzero => hne ((s16_eq_zero_iff _).mp hzero)
    have hrange := fmod_range (s16 (s.cur.reg rd)) hne'
    have hdivisor : -32768 ≤ s16 (s.cur.reg rs) ∧ s16 (s.cur.reg rs) ≤ 32767 := toInt_range _
    refine ⟨(s16 (s.cur.reg rd)).fdiv (s16 (s.cur.reg rs)), (s16 (s.cur.reg rd)).fmod (s16 (s.cur.reg rs)),
      if_neg hne', ?_, (Int.mul_fdiv_add_fmod _ _).symm, hrange⟩
    rw [modsValue, if_neg hne', toInt_u16 (by omega) (by omega)]

/-! ### Bit by bit -/

theorem getLsbD_notValue (a : Word) {i : Nat} (hi : i < 16) : (notValue a).getLsbD i = !a.getLsbD i := by
  have hones : (0xFFFF : Word) = BitVec.allOnes 16 := rfl
  rw [notValue, hones, BitVec.getLsbD_xor, BitVec.getLsbD_allOnes, decide_eq_true hi, Bool.xor_true]

/-- Settles O28: the bitwise operations of `BitVec`, read bit by bit. -/
theorem bitwiseOperations : Obligations.BitwiseOperations := by
  unfold Obligations.BitwiseOperations
  intro s rs rd
  exact ⟨decodes_rrTableWord 0x5 0xA (fun _ => rfl) rfl, decodes_rrTableWord 0x5 0xF (fun _ => rfl) rfl,
    ⟨_, writesReg_of_exec_eq_retireReg rfl, fun i => getLsbD_notValue _⟩,
    writesReg_of_exec_eq_retireReg rfl,
    decodes_rrTableWord 0x6 0x8 (fun _ => rfl) rfl, decodes_rrTableWord 0x6 0x9 (fun _ => rfl) rfl,
    decodes_rrTableWord 0x6 0xA (fun _ => rfl) rfl,
    ⟨_, writesReg_of_exec_eq_retireReg rfl, fun i _ => BitVec.getLsbD_and⟩,
    ⟨_, writesReg_of_exec_eq_retireReg rfl, fun i _ => BitVec.getLsbD_or⟩,
    ⟨_, writesReg_of_exec_eq_retireReg rfl, fun i _ => BitVec.getLsbD_xor⟩⟩

/-! ### Shifts -/

theorem shlValue_eq_shiftLeft (a b : Word) : shlValue a b = a <<< b.toNat := by
  rw [shlValue]
  split
  case isTrue hlarge => exact (BitVec.shiftLeft_eq_zero hlarge).symm
  case isFalse =>
    apply BitVec.eq_of_toNat_eq
    rw [BitVec.toNat_ofNat, BitVec.toNat_shiftLeft, Nat.shiftLeft_eq]

theorem shruValue_eq_ushiftRight (a b : Word) : shruValue a b = a >>> b.toNat := by
  have ha := a.isLt
  have hle := Nat.div_le_self a.toNat (2 ^ b.toNat)
  rw [shruValue]
  split
  case isTrue hlarge => exact (BitVec.ushiftRight_eq_zero hlarge).symm
  case isFalse =>
    apply BitVec.eq_of_toNat_eq
    rw [BitVec.toNat_ofNat, BitVec.toNat_ushiftRight, Nat.shiftRight_eq_div_pow, Nat.mod_eq_of_lt (by omega)]

theorem shrsValue_of_small (a : Word) {b : Word} (h : ¬16 ≤ b.toNat) : shrsValue a b = a.sshiftRight b.toNat := by
  rw [shrsValue, if_neg h, BitVec.sshiftRight_eq, Int.shiftRight_eq_div_pow, u16, s16, Nat.cast_pow,
    Int.fdiv_eq_ediv_of_nonneg _ (by positivity)]
  rfl

/-- Sign bits come in from the top, and from an amount of 16 on nothing else is left (R634). -/
theorem getLsbD_shrsValue (a b : Word) {i : Nat} (hi : i < 16) :
    (shrsValue a b).getLsbD i = if i + b.toNat < 16 then a.getLsbD (i + b.toNat) else a.getLsbD 15 := by
  by_cases hlarge : 16 ≤ b.toNat
  · have hones : (0xFFFF : Word) = BitVec.allOnes 16 := rfl
    have hpast : ¬i + b.toNat < 16 := by omega
    rw [shrsValue, if_pos hlarge, if_neg hpast, hones]
    cases hsign : a.getLsbD 15
    · simp
    · rw [if_pos rfl, BitVec.getLsbD_allOnes, decide_eq_true hi]
  · rw [shrsValue_of_small a hlarge, BitVec.getLsbD_sshiftRight, decide_eq_false (by omega), Bool.not_false,
      Bool.true_and, Nat.add_comm b.toNat i, BitVec.msb_eq_getLsbD_last]

/-- Settles O29: the three values are the shifts of `BitVec` by the whole amount. -/
theorem shiftsByWholeAmount : Obligations.ShiftsByWholeAmount := by
  unfold Obligations.ShiftsByWholeAmount
  intro s rs rd
  refine ⟨decodes_rrTableWord 0x6 0xB (fun _ => rfl) rfl, decodes_rrTableWord 0x6 0xC (fun _ => rfl) rfl,
    decodes_rrTableWord 0x6 0xD (fun _ => rfl) rfl,
    ⟨_, writesReg_of_exec_eq_retireReg rfl, fun i hi => ?shl⟩,
    ⟨_, writesReg_of_exec_eq_retireReg rfl, fun i _ => ?shru⟩,
    ⟨_, writesReg_of_exec_eq_retireReg rfl, fun i => getLsbD_shrsValue _ _⟩⟩
  case shl =>
    simp only [shlValue_eq_shiftLeft, BitVec.getLsbD_shiftLeft, hi, decide_true, Bool.true_and, ← decide_not,
      Nat.not_lt]
  case shru => rw [shruValue_eq_ushiftRight, BitVec.getLsbD_ushiftRight, Nat.add_comm]

/-! ### Counts of bits -/

theorem toNat_ofNat_of_le {n : Nat} (h : n ≤ 16) : (BitVec.ofNat 16 n).toNat = n :=
  Nat.mod_eq_of_lt (by omega)

/-- Counting over the positions is counting the positions that are set. -/
theorem countP_range_eq_card (n : Nat) (p : Nat → Bool) :
    (List.range n).countP p = (Finset.univ.filter fun i : Fin n => p i = true).card := by
  rw [← List.map_coe_finRange_eq_range, List.countP_map, List.countP_eq_length_filter]
  simp [Fin.univ_def, Finset.card, Finset.filter, Function.comp_def]

theorem toNat_popcntValue (a : Word) :
    (popcntValue a).toNat = (Finset.univ.filter fun i : Fin 16 => a.getLsbD i = true).card := by
  have hle : (List.range 16).countP (fun i => a.getLsbD i) ≤ 16 := by
    simpa using List.countP_le_length (p := fun i => a.getLsbD i) (l := List.range 16)
  rw [popcntValue, toNat_ofNat_of_le hle, countP_range_eq_card]

/-- A search over the positions stops at the first one that holds. -/
theorem find?_range_getD {p : Nat → Bool} {n k : Nat} (hk : k < n) (hp : p k = true)
    (hbelow : ∀ m, m < k → p m = false) :
    ((List.range n).find? p).getD n = k := by
  have hfound : (List.range n).find? p = some k :=
    List.find?_range_eq_some.mpr ⟨hp, List.mem_range.mpr hk, fun m hm => by rw [hbelow m hm]; rfl⟩
  rw [hfound, Option.getD_some]

theorem toNat_clzValue {a : Word} {n : Nat} (hn : n < 16) (hset : a.getLsbD n = true)
    (habove : ∀ m, n < m → m < 16 → a.getLsbD m = false) : (clzValue a).toNat = 15 - n := by
  rw [clzValue, find?_range_getD (k := 15 - n) (by omega) (by rwa [show 15 - (15 - n) = n by omega])
    fun m hm => habove (15 - m) (by omega) (by omega), toNat_ofNat_of_le (by omega)]

theorem toNat_ctzValue {a : Word} {n : Nat} (hn : n < 16) (hset : a.getLsbD n = true)
    (hbelow : ∀ m, m < n → a.getLsbD m = false) : (ctzValue a).toNat = n := by
  rw [ctzValue, find?_range_getD hn hset hbelow, toNat_ofNat_of_le (by omega)]

theorem clzValue_zero : clzValue 0 = 16 := by decide

theorem ctzValue_zero : ctzValue 0 = 16 := by decide

/-- Settles O23: a count over the positions, and two searches that stop at the highest and the lowest set bit. -/
theorem bitCounts : Obligations.BitCounts := by
  unfold Obligations.BitCounts
  intro s rs rd
  exact ⟨decodes_rrTableWord 0x5 0xB (fun _ => rfl) rfl, decodes_rrTableWord 0x5 0xC (fun _ => rfl) rfl,
    decodes_rrTableWord 0x5 0xD (fun _ => rfl) rfl,
    ⟨_, writesReg_of_exec_eq_retireReg rfl, toNat_popcntValue _⟩,
    ⟨_, writesReg_of_exec_eq_retireReg rfl, fun hzero => hzero ▸ clzValue_zero, fun n => toNat_clzValue⟩,
    ⟨_, writesReg_of_exec_eq_retireReg rfl, fun hzero => hzero ▸ ctzValue_zero, fun n => toNat_ctzValue⟩⟩

/-! ### Compare -/

theorem toNat_flagNibble (l e g sg : Bool) :
    (flagNibble l e g sg).toNat = l.toNat * 8 + e.toNat * 4 + g.toNat * 2 + sg.toNat := by
  cases l <;> cases e <;> cases g <;> cases sg <;> rfl

/-- The number of a compare word is the encoder's word (R302, R316). -/
theorem compareNumber_eq_encode (l e g sg : Bool) (a b : Reg) :
    BitVec.ofNat 16 (0x8000 + l.toNat * 2048 + e.toNat * 1024 + g.toNat * 512 + sg.toNat * 256 + a.toNat * 16 +
      b.toNat) = encode (.cmp l e g sg a b) := by
  apply BitVec.eq_of_toNat_eq
  have hl := l.toNat_le
  have he := e.toNat_le
  have hg := g.toNat_le
  have hs := sg.toNat_le
  have ha := a.isLt
  have hb := b.isLt
  have hop : (0x8 : BitVec 4).toNat = 8 := rfl
  simp only [encode, rrWord, toNat_append_eq_mul_add, toNat_flagNibble, BitVec.toNat_ofNat, hop]
  omega

theorem compareReading_eq (sg : Bool) (w : Word) (p : Int) (hsigned : sg = true → p = w.toInt)
    (hunsigned : sg = false → p = w.toNat) : compareReading sg w = p := by
  cases sg with
  | true => exact (hsigned rfl).symm
  | false => exact (hunsigned rfl).symm

theorem relationHolds_iff (l e g : Bool) (p q : Int) :
    relationHolds l e g p q = true ↔ l = true ∧ p < q ∨ e = true ∧ p = q ∨ g = true ∧ p > q := by
  simp only [relationHolds, Bool.or_eq_true, Bool.and_eq_true, decide_eq_true_eq, or_assoc, gt_iff_lt]

/-- Settles O32: the selected relation of the selected readings decides between 1 and 0. -/
theorem compareSelectsRelation : Obligations.CompareSelectsRelation := by
  unfold Obligations.CompareSelectsRelation
  intro s l e g sg ra rb
  refine ⟨decodes_of_encode_eq (fun _ => rfl) (compareNumber_eq_encode l e g sg ra rb).symm, _,
    writesReg_of_exec_eq_retireReg rfl, fun p q hsigned hunsigned => ?_⟩
  have hp := compareReading_eq sg (s.cur.reg ra) p (fun h => (hsigned h).1) fun h => (hunsigned h).1
  have hq := compareReading_eq sg (s.cur.reg rb) q (fun h => (hsigned h).2) fun h => (hunsigned h).2
  rw [compareResult, hp, hq, ← relationHolds_iff]
  exact ⟨fun h => if_pos h, fun h => if_neg h⟩

end Sys2Proof.Proofs
end

section
/-! EXPS and ROOT (spec/44_binary.md R640, R642): the model keeps of binary64 `pow` what rounding and clamping can see,
and these lemmas say which integer that is, by base and exponent and by radicand and degree. -/

namespace Sys2Proof.Proofs

open Sys2Proof.Machine Sys2Proof.Claims

/-! ### The instruction around the value -/

/-- EXPS and ROOT retire with the word of their value in the destination and as many free values taken as it draws. -/
theorem writesOpenReg_of_exec_eq_powOp {i : Instr} {s : State} {rs rd : Reg} {y : Word → Word → PowValue}
    (h : exec i s = s.powOp rs rd y) :
    ∃ t, WritesOpenReg i s t rd (y (s.cur.reg rd) (s.cur.reg rs)).draws ∧
      t.cur.reg rd =
        (y (s.cur.reg rd) (s.cur.reg rs)).word (s16 (s.cur.reg rd)) (s16 (s.cur.reg rs)) s.freeDraws := by
  obtain ⟨t, hexec, hcur, ⟨hevents, hrng, hdraws⟩, hregs, hretired⟩ :=
    retire_frame s s.events s.rngCalls (s.freeDraws + (y (s.cur.reg rd) (s.cur.reg rs)).draws) (ds := [rd])
      (c := s.cur.setReg rd
        ((y (s.cur.reg rd) (s.cur.reg rs)).word (s16 (s.cur.reg rd)) (s16 (s.cur.reg rs)) s.freeDraws))
      (s.cur.pc + 1) .continued (fun q hq => Vm.reg_setReg_ne s.cur _ (by simpa using hq)) rfl rfl
  exact ⟨t, ⟨h.trans hexec, hregs, memoryKept_of_cur (by simp [hcur]) (by simp [hcur]),
    ⟨by simp [hcur], by simp [hcur]⟩, hevents, hrng, hdraws, hretired⟩, by simp [hcur]⟩

/-! ### The word of a value -/

theorem clamp16_of_range {v : Int} (hlow : -32768 ≤ v) (hhigh : v ≤ 32767) : clamp16 v = v := by
  rw [clamp16]
  omega

theorem toInt_word_near (v a b : Int) (n : Nat) : ((PowValue.near v).word a b n).toInt = clamp16 v := by
  have hlow : -32768 ≤ clamp16 v := by rw [clamp16]; omega
  have hhigh : clamp16 v ≤ 32767 := by rw [clamp16]; omega
  exact toInt_u16 hlow hhigh

theorem toInt_word_inf (a b : Int) (n : Nat) : ((PowValue.inf false).word a b n).toInt = 32767 := by
  have hword : (PowValue.inf false).word a b n = 0x7FFF := rfl
  rw [hword]
  decide

/-- 1/2 and -1/2 go to 0 or away from it by the halfway rule (I5). -/
theorem toInt_word_half (neg : Bool) (a b : Int) (n : Nat) :
    ((PowValue.half neg).word a b n).toInt = 0 ∨ ((PowValue.half neg).word a b n).toInt = if neg then -1 else 1 := by
  rw [PowValue.word]
  cases Config.halfAway neg
  · exact .inl rfl
  · cases neg <;> exact .inr rfl

theorem toInt_word_nearHalf (a b : Int) (n : Nat) :
    (PowValue.nearHalf.word a b n).toInt = 0 ∨ (PowValue.nearHalf.word a b n).toInt = 1 := by
  rw [PowValue.word]
  cases Config.nearHalfUp a b
  · exact .inl rfl
  · exact .inr rfl

/-! ### EXPS -/

theorem withPowSign_natAbs_pow (a : Int) (n : Nat) : withPowSign a n (a.natAbs ^ n) = a ^ n := by
  rw [withPowSign, Nat.cast_pow]
  rcases lt_or_ge a 0 with hneg | hnonneg
  · have habs : (a.natAbs : Int) = -a := by omega
    rcases Nat.even_or_odd n with heven | hodd
    · have hn : ¬n % 2 = 1 := by have := Nat.even_iff.mp heven; omega
      rw [if_neg fun h => hn h.2, habs, heven.neg_pow]
    · rw [if_pos ⟨hneg, Nat.odd_iff.mp hodd⟩, habs, hodd.neg_pow, neg_neg]
  · have habs : (a.natAbs : Int) = a := by omega
    rw [if_neg fun h => absurd h.1 (by omega), habs]

/-- A magnitude from 2^16 on is clamped to the bound on its side. -/
theorem clamp16_withPowSign_large (a : Int) (n : Nat) {m : Nat} (h : 65536 ≤ m) :
    clamp16 (withPowSign a n m) = if a < 0 ∧ n % 2 = 1 then -32768 else 32767 := by
  rw [withPowSign]
  split <;> rw [clamp16] <;> omega

/-- From the sixteenth power on a base of size 2 or more is beyond the bounds. -/
theorem clamp16_powMagnitude (a : Int) (n : Nat) : clamp16 (withPowSign a n (powMagnitude a n)) = clamp16 (a ^ n) := by
  rw [← withPowSign_natAbs_pow a n, powMagnitude]
  rcases Nat.le_total n 16 with hsmall | hlarge
  · rw [Nat.min_eq_left hsmall]
  · rw [Nat.min_eq_right hlarge]
    rcases Nat.lt_or_ge a.natAbs 2 with htiny | hbig
    · have hcases : a.natAbs = 0 ∨ a.natAbs = 1 := by omega
      rcases hcases with hzero | hone
      · rw [hzero, Nat.zero_pow (by decide), Nat.zero_pow (by omega)]
      · rw [hone, Nat.one_pow, Nat.one_pow]
    · have h16 : 65536 ≤ a.natAbs ^ 16 := Nat.pow_le_pow_left hbig 16
      have hn : a.natAbs ^ 16 ≤ a.natAbs ^ n := Nat.pow_le_pow_right (by omega) hlarge
      rw [clamp16_withPowSign_large a n h16, clamp16_withPowSign_large a n (h16.trans hn)]

theorem expsPow_of_nonneg {a b : Int} (h : 0 ≤ b) :
    expsPow a b = .near (withPowSign a b.toNat (powMagnitude a b.toNat)) := by
  rw [expsPow, if_pos h]

theorem expsPow_zero {b : Int} (h : b < 0) : expsPow 0 b = .inf false := by
  rw [expsPow, if_neg (by omega), if_pos rfl]

theorem expsPow_of_natAbs_one {a b : Int} (h : b < 0) (ha : a.natAbs = 1) :
    expsPow a b = .near (withPowSign a b.natAbs 1) := by
  rw [expsPow, if_neg (by omega), if_neg (by omega), if_pos ha]

theorem expsPow_half {a : Int} (ha : a.natAbs = 2) : expsPow a (-1) = .half (decide (a < 0)) := by
  rw [expsPow, if_neg (by omega), if_neg (by omega), if_neg (by omega), if_pos ⟨ha, rfl⟩]

theorem expsPow_of_large {a b : Int} (h : b < 0) (ha : 2 ≤ a.natAbs) (hnot : ¬(a.natAbs = 2 ∧ b = -1)) :
    expsPow a b = .near 0 := by
  rw [expsPow, if_neg (by omega), if_neg (by omega), if_neg (by omega), if_neg hnot]

theorem draws_expsPow (a b : Int) : (expsPow a b).draws = 0 := by
  unfold expsPow
  split_ifs <;> rfl

/-- Settles O30: each clause is one branch of `expsPow`, the clamped power by `clamp16_powMagnitude`. -/
theorem expsRoundsThePower : Obligations.ExpsRoundsThePower := by
  unfold Obligations.ExpsRoundsThePower
  intro s rs rd
  have hdecodes : encode (.exps rs rd) = rrTableWord 0x6E rs rd := (rrTableWord_eq_rrWord 0x6 0xE rs rd).symm
  obtain ⟨t, hwrites, hvalue⟩ :=
    writesOpenReg_of_exec_eq_powOp (i := .exps rs rd) (s := s) (y := expsValue) (rs := rs) (rd := rd) rfl
  have hdraws : (expsValue (s.cur.reg rd) (s.cur.reg rs)).draws = 0 := draws_expsPow _ _
  refine ⟨decode_of_encode_eq rfl hdecodes, t, hdraws ▸ hwrites, ?_⟩
  rintro a b v ha hb rfl
  rw [hvalue, expsValue, s16, s16, ← ha, ← hb]
  refine ⟨fun hnonneg => ?_, ?_, ?_, ?_, fun hneg h3 => ?_, fun hneg h2 => ?_, ?_, ?_⟩
  · rw [expsPow_of_nonneg hnonneg, toInt_word_near, clamp16_powMagnitude]
    rfl
  · rintro hneg rfl
    rw [expsPow_zero hneg, toInt_word_inf]
  · rintro hneg rfl
    rw [expsPow_of_natAbs_one hneg rfl, toInt_word_near]
    rfl
  · rintro hneg rfl
    rw [expsPow_of_natAbs_one hneg rfl, toInt_word_near, withPowSign]
    by_cases heven : b % 2 = 0
    · rw [if_pos heven, if_neg (by omega)]
      rfl
    · rw [if_neg heven, if_pos (by omega)]
      rfl
  · rw [expsPow_of_large hneg (by omega) (by omega), toInt_word_near]
    rfl
  · rw [expsPow_of_large (by omega) (by omega) (by omega), toInt_word_near]
    rfl
  · rintro rfl rfl
    rw [expsPow_half rfl]
    exact toInt_word_half _ _ _ _
  · rintro rfl rfl
    rw [expsPow_half rfl]
    exact toInt_word_half _ _ _ _

/-! ### The nearest root -/

/-- `r` is the integer nearest to the b-th root of `a`: `(r - 1/2) ^ b < a < (r + 1/2) ^ b`. -/
def NearestRoot (a b r : Nat) : Prop := 0 < r ∧ (2 * r - 1) ^ b < a * 2 ^ b ∧ a * 2 ^ b < (2 * r + 1) ^ b

/-- An odd number's power is never `a * 2 ^ b`, so that a root never lies halfway between two integers. -/
theorem mul_two_pow_ne_odd_pow (a n : Nat) {b : Nat} (hb : 0 < b) : a * 2 ^ b ≠ (2 * n + 1) ^ b := by
  intro heq
  have heven : Even (a * 2 ^ b) := (Even.pow_of_ne_zero even_two hb.ne').mul_left a
  have hodd : Odd ((2 * n + 1) ^ b) := Odd.pow ⟨n, rfl⟩
  exact (Nat.not_even_iff_odd.mpr hodd) (heq ▸ heven)

theorem nearestRoot_le (a b fuel : Nat) : nearestRoot a b fuel ≤ fuel := by
  induction fuel with
  | zero => exact Nat.le_refl 0
  | succ n ih =>
    rw [nearestRoot]
    split
    · exact Nat.le_refl _
    · exact ih.trans (Nat.le_succ n)

/-- The search downwards finds the nearest root where the fuel lies above it. -/
theorem nearestRoot_spec {a b fuel : Nat} (hb : 0 < b) (ha : 0 < a) (hfuel : a * 2 ^ b < (2 * fuel + 1) ^ b) :
    NearestRoot a b (nearestRoot a b fuel) := by
  induction fuel with
  | zero =>
    have hpos : 0 < a * 2 ^ b := Nat.mul_pos ha (Nat.two_pow_pos b)
    rw [Nat.mul_zero, Nat.zero_add, Nat.one_pow] at hfuel
    omega
  | succ n ih =>
    rw [nearestRoot]
    split
    case isTrue hbelow => exact ⟨Nat.succ_pos n, hbelow, hfuel⟩
    case isFalse hnot =>
      have hne := mul_two_pow_ne_odd_pow a n hb
      exact ih (by omega)

/-- Where `c / 2` exceeds the m-th root of `a` it exceeds every further one. -/
theorem mul_two_pow_lt_pow_of_le {a c m n : Nat} (hc : 2 ≤ c) (hm : a * 2 ^ m < c ^ m) (hmn : m ≤ n) :
    a * 2 ^ n < c ^ n := by
  induction n, hmn using Nat.le_induction with
  | base => exact hm
  | succ n _ ih =>
    calc a * 2 ^ (n + 1) = a * 2 ^ n * 2 := by rw [pow_succ, mul_assoc]
      _ < c ^ n * 2 := by omega
      _ ≤ c ^ n * c := Nat.mul_le_mul_left _ hc
      _ = c ^ (n + 1) := (pow_succ c n).symm

/-- The root of a 16-bit radicand: below 182 and a half, and 1 from degree 26 on. -/
theorem nearestRoot_of_word {a b : Nat} (ha : 0 < a) (hmax : a ≤ 32767) (hb : 2 ≤ b) :
    NearestRoot a b (nearestRoot a (min b 26) 182) := by
  have hfuel : a * 2 ^ min b 26 < (2 * 182 + 1) ^ min b 26 :=
    mul_two_pow_lt_pow_of_le (m := 2) (by decide) (by omega) (by omega)
  have hspec := nearestRoot_spec (by omega) ha hfuel
  rcases Nat.le_total b 26 with hsmall | hlarge
  · rwa [Nat.min_eq_left hsmall] at hspec ⊢
  · rw [Nat.min_eq_right hlarge] at hspec ⊢
    obtain ⟨hpos, hlow, -⟩ := hspec
    have h26 : a * 2 ^ 26 < 3 ^ 26 := by omega
    have hlt : 2 * nearestRoot a 26 182 - 1 < 3 := lt_of_pow_lt_pow_left₀ 26 (by decide) (hlow.trans h26)
    obtain hone : nearestRoot a 26 182 = 1 := by omega
    have hbig : 1 < 2 ^ b := Nat.one_lt_two_pow (by omega)
    rw [hone]
    refine ⟨by decide, ?_, mul_two_pow_lt_pow_of_le (by decide) h26 hlarge⟩
    calc (2 * 1 - 1) ^ b = 1 := Nat.one_pow b
      _ < 2 ^ b := hbig
      _ ≤ a * 2 ^ b := Nat.le_mul_of_pos_left _ ha

/-! ### ROOT -/

/-- The value of ROOT by radicand and degree (R642). -/
def rootOf (a b : Int) : PowValue := if b = 0 then .near 1 else rootPow a b

theorem rootValue_eq_rootOf (lhs rhs : Word) : rootValue lhs rhs = rootOf (s16 lhs) (s16 rhs) := rfl

theorem rootOf_zero_degree (a : Int) : rootOf a 0 = .near 1 := rfl

theorem rootOf_one (a : Int) : rootOf a 1 = .near a := rfl

theorem rootOf_neg_one (a : Int) : rootOf a (-1) = expsPow a (-1) := rfl

theorem rootOf_of_neg {a b : Int} (ha : a < 0) (hb : 2 ≤ b.natAbs) : rootOf a b = .any := by
  rw [rootOf, if_neg (by omega), rootPow, if_neg (by omega), if_neg (by omega), if_pos ha]

theorem rootOf_zero {b : Int} (hb : 2 ≤ b.natAbs) : rootOf 0 b = if 0 < b then .near 0 else .inf false := by
  rw [rootOf, if_neg (by omega), rootPow, if_neg (by omega), if_neg (by omega), if_neg (by omega), if_pos rfl]

theorem rootOf_of_pos {a b : Int} (ha : 0 < a) (hb : 2 ≤ b) :
    rootOf a b = .near (nearestRoot a.toNat (min b.toNat 26) 182) := by
  rw [rootOf, if_neg (by omega), rootPow, if_neg (by omega), if_neg (by omega), if_neg (by omega), if_neg (by omega),
    if_pos (by omega)]

/-- What a reciprocal root can be: 1, one half, or less, by how `a` compares with `2 ^ n`. -/
def reciprocalRoot (a : Int) (n : Nat) : PowValue :=
  if a < 2 ^ n then .near 1 else if a = 2 ^ n then (if isPow2 n then .half false else .nearHalf) else .near 0

theorem rootOf_neg_one_of_pos {a : Int} (ha : 0 < a) : rootOf a (-1) = reciprocalRoot a 1 := by
  rw [rootOf_neg_one, reciprocalRoot, pow_one]
  rcases lt_trichotomy a 2 with hlt | rfl | hgt
  · obtain rfl : a = 1 := by omega
    rfl
  · rfl
  · rw [expsPow_of_large (by omega) (by omega) (by omega), if_neg (by omega), if_neg (by omega)]

/-- No 16-bit radicand reaches a power of two from the sixteenth on. -/
theorem rootOf_of_neg_degree {a b : Int} (ha : 0 < a) (hmax : a ≤ 32767) (hb : b < 0) :
    rootOf a b = reciprocalRoot a b.natAbs := by
  by_cases hone : b = -1
  · subst hone
    exact rootOf_neg_one_of_pos ha
  have hroot : rootOf a b = if a < 2 ^ min b.natAbs 16 then .near 1
      else if a = 2 ^ min b.natAbs 16 then (if isPow2 b.natAbs then .half false else .nearHalf) else .near 0 := by
    rw [rootOf, if_neg (by omega), rootPow, if_neg (by omega), if_neg hone, if_neg (by omega), if_neg (by omega),
      if_neg (by omega)]
  rcases Nat.le_total b.natAbs 16 with hsmall | hlarge
  · rw [hroot, Nat.min_eq_left hsmall, reciprocalRoot]
  · have hpow : (2 : Int) ^ 16 ≤ 2 ^ b.natAbs := pow_le_pow_right₀ (by decide) hlarge
    rw [hroot, Nat.min_eq_right hlarge, reciprocalRoot, if_pos (by omega), if_pos (by omega)]

theorem draws_rootOf (a b : Int) : (rootOf a b).draws = if a < 0 ∧ 2 ≤ b.natAbs then 1 else 0 := by
  by_cases hb : 2 ≤ b.natAbs
  · by_cases ha : a < 0
    · rw [rootOf_of_neg ha hb, if_pos ⟨ha, hb⟩]
      rfl
    · rw [if_neg fun h => ha h.1, rootOf, if_neg (by omega), rootPow, if_neg (by omega), if_neg (by omega), if_neg ha]
      dsimp only
      split_ifs <;> rfl
  · rw [if_neg fun h => hb h.2]
    have hcases : b = 0 ∨ b = 1 ∨ b = -1 := by omega
    rcases hcases with rfl | rfl | rfl
    · rfl
    · rfl
    · exact draws_expsPow a (-1)

/-- The integer that ROOT leaves, by radicand and degree: the clauses of R642 as the model reads them. -/
theorem toInt_word_rootOf {a b : Int} (hlow : -32768 ≤ a) (hmax : a ≤ 32767) (n : Nat) {v : Int}
    (hv : v = ((rootOf a b).word a b n).toInt) :
    (b = 0 → v = 1) ∧
    (b = 1 → v = a) ∧
    (a = 0 → 0 < b → v = 0) ∧
    (a = 0 → b < 0 → v = 32767) ∧
    (0 < a → 2 ≤ b → (2 * v - 1) ^ b.toNat < a * 2 ^ b.toNat ∧ a * 2 ^ b.toNat < (2 * v + 1) ^ b.toNat ∧ 0 < v) ∧
    (0 < a → b < 0 → a < 2 ^ b.natAbs → v = 1) ∧
    (0 < a → b < 0 → a = 2 ^ b.natAbs → v = 0 ∨ v = 1) ∧
    (0 < a → b < 0 → 2 ^ b.natAbs < a → v = 0) ∧
    (b = -1 → a = -1 → v = -1) ∧
    (b = -1 → a = -2 → v = 0 ∨ v = -1) ∧
    (b = -1 → a < -2 → v = 0) := by
  subst hv
  refine ⟨?zeroDegree, ?degreeOne, ?zero, ?infinite, fun ha hb => ?nearest, fun ha hb hlt => ?recipOne,
    fun ha hb heq => ?recipHalf, fun ha hb hgt => ?recipZero, ?minusOne, ?minusHalf, ?minusZero⟩
  case zeroDegree =>
    rintro rfl
    rw [rootOf_zero_degree, toInt_word_near]
    rfl
  case degreeOne =>
    rintro rfl
    rw [rootOf_one, toInt_word_near, clamp16_of_range hlow hmax]
  case zero =>
    rintro rfl hb
    by_cases hone : b = 1
    · subst hone
      rw [rootOf_one, toInt_word_near]
      rfl
    · rw [rootOf_zero (by omega), if_pos hb, toInt_word_near]
      rfl
  case infinite =>
    rintro rfl hb
    by_cases hone : b = -1
    · subst hone
      rw [rootOf_neg_one, expsPow_zero hb, toInt_word_inf]
    · rw [rootOf_zero (by omega), if_neg (by omega), toInt_word_inf]
  case nearest =>
    obtain ⟨hpos, hbelow, habove⟩ := nearestRoot_of_word (a := a.toNat) (b := b.toNat) (by omega) (by omega) (by omega)
    have hle := nearestRoot_le a.toNat (min b.toNat 26) 182
    rw [rootOf_of_pos ha hb, toInt_word_near, clamp16_of_range (by omega) (by omega)]
    generalize nearestRoot a.toNat (min b.toNat 26) 182 = r at hpos hbelow habove
    have hcast : (a.toNat : Int) = a := by omega
    have hpred : ((2 * r - 1 : Nat) : Int) = 2 * r - 1 := by omega
    refine ⟨?_, ?_, by omega⟩
    · rw [← hpred, ← hcast]
      exact_mod_cast hbelow
    · rw [← hcast]
      exact_mod_cast habove
  case recipOne =>
    rw [rootOf_of_neg_degree ha hmax hb, reciprocalRoot, if_pos hlt, toInt_word_near]
    rfl
  case recipHalf =>
    rw [rootOf_of_neg_degree ha hmax hb, reciprocalRoot, if_neg (by omega), if_pos heq]
    split
    · exact toInt_word_half false a b n
    · exact toInt_word_nearHalf a b n
  case recipZero =>
    rw [rootOf_of_neg_degree ha hmax hb, reciprocalRoot, if_neg (by omega), if_neg (by omega), toInt_word_near]
    rfl
  case minusOne =>
    rintro rfl rfl
    rw [rootOf_neg_one, expsPow_of_natAbs_one (by decide) rfl, toInt_word_near]
    rfl
  case minusHalf =>
    rintro rfl rfl
    rw [rootOf_neg_one, expsPow_half rfl]
    exact toInt_word_half true (-2) (-1) n
  case minusZero =>
    rintro rfl ha
    rw [rootOf_neg_one, expsPow_of_large (by decide) (by omega) (by omega), toInt_word_near]
    rfl

/-- Settles O31: the value of `root` is `rootOf` of the signed readings. -/
theorem rootRoundsTheRoot : Obligations.RootRoundsTheRoot := by
  unfold Obligations.RootRoundsTheRoot
  intro s rs rd
  have hdecodes : encode (.root rs rd) = rrTableWord 0x6F rs rd := (rrTableWord_eq_rrWord 0x6 0xF rs rd).symm
  refine ⟨decode_of_encode_eq rfl hdecodes, ?_⟩
  rintro a b rfl rfl
  obtain ⟨t, hwrites, hvalue⟩ :=
    writesOpenReg_of_exec_eq_powOp (i := .root rs rd) (s := s) (y := rootValue) (rs := rs) (rd := rd) rfl
  rw [rootValue_eq_rootOf] at hwrites hvalue
  rw [draws_rootOf] at hwrites
  obtain ⟨hlow, hmax⟩ := toInt_range (s.cur.reg rd)
  exact ⟨t, hwrites, fun v hv => toInt_word_rootOf hlow hmax s.freeDraws (hv.trans (congrArg BitVec.toInt hvalue))⟩

end Sys2Proof.Proofs
end
